-- ==== Sys2Proof/Word.lean ====
section
/-! DEFINITION. The words and index types of the SL-832: feed words, payload fields, and the numbers that name feeds,
slots, lanes and rule entries (spec: 00_scope.md, Terms; 01, section 1.1 and R15). -/

namespace Sys2Proof

/-- A feed word: ten bits, 000h to 3FFh (00_scope.md, Terms). -/
abbrev FeedWord := BitVec 10

/-- A field of a command, reply or beacon payload: three data bytes, 0 to 16,777,215 (R15). -/
abbrev Field := BitVec 24

/-- A feed, and the path of the same number, 0 to 7. -/
abbrev Feed := Fin 8

/-- A pair slot, 0 to 7. -/
abbrev Slot := Fin 8

/-- A lane, 0 to 31. -/
abbrev LaneId := Fin 32

/-- The index of a rule entry within its input's table, 0 to 15. -/
abbrev RuleIndex := Fin 16

end Sys2Proof
end

