-- ==== Sys2Proof/Syntax.lean ====
section
/-! DEFINITION. The commands of the block: one constructor for each row of spec/opcode_table.json. An operand `dt` is
the time in nanoseconds that passes up to the event (DESIGN CHOICE, assumption 1). Operands of type `Field` are the fields of a
command packet as the control system sends them, unjudged. -/

namespace Sys2Proof

/-- The tables a WRITE-ENTRY may name and may not write (R17, R19). -/
inductive UnwritableTable where
  | routeLive
  | stream
  | probe
  deriving DecidableEq, Repr

/-- Feed words that arrive at input port `port` with an event: those that arrive before the words of the event and those
that arrive behind them (R1; DESIGN CHOICE, assumption 10). -/
structure Arrival where
  port : Feed
  before : List FeedWord
  behind : List FeedWord
  deriving DecidableEq, Repr

/-- The words of an event alone. -/
def Arrival.bare (p : Feed) : Arrival := { port := p, before := [], behind := [] }

/-- The four steps in which an output line is assembled (R131). -/
inductive LineStep where
  | passed
  | beacon
  | replies
  | carriage
  deriving DecidableEq, Repr

/-- The steps of the part, as spec/opcode_table.json lists them. -/
inductive Instr where
  /-- POWER_ON_RESET (R160), with the numbers the straps give. -/
  | powerOnReset (addressStraps : Fin 16) (feedStraps : Feed)
  /-- LINE_MARKER (R3): the words of a line marker arrive. -/
  | lineMarker (a : Arrival) (dt : Nat)
  /-- FRAME_MARKER (R3): the words of a frame marker arrive. -/
  | frameMarker (a : Arrival) (dt : Nat)
  /-- PICTURE_MARK (R2): the words of a picture mark arrive. -/
  | pictureMark (a : Arrival) (dt : Nat)
  /-- PACKET_COMPLETE (R6): the words of a packet behind its lead marks arrive. -/
  | packetComplete (a : Arrival) (kind : BitVec 8) (payload : List FeedWord) (sum : FeedWord)
  /-- LOSS_TIMER_EXPIRY (R24). -/
  | lossTimerExpiry (p : Feed) (dt : Nat)
  /-- HOUSE_PULSE (R39). -/
  | housePulse (dt : Nat)
  /-- ABSENCE_TIMER_EXPIRY (R40). -/
  | absenceTimerExpiry (dt : Nat)
  /-- FREEWHEEL_TIMER_EXPIRY (R40). -/
  | freewheelTimerExpiry (dt : Nat)
  /-- WATCH_EXPIRED (R51): the watch of entry `e` of input `p`. -/
  | watchExpired (p : Feed) (e : RuleIndex)
  /-- TALLY_REACHED (R53): the watch of entry `e` of input `p`. -/
  | tallyReached (p : Feed) (e : RuleIndex)
  /-- SWEEP (R66). -/
  | sweep
  /-- GENERATED_LINE_START (R32): the next line of the generated frame of path `p`. -/
  | generatedLineStart (p : Feed) (dt : Nat)
  /-- OUTPUT_LINE_ASSEMBLY (R131): the line in progress on output `p` is assembled through the step `upTo`. -/
  | outputLineAssembly (p : Feed) (upTo : LineStep)
  /-- READ_ENTRY_RULE (R58). -/
  | readEntryRule (tag index : Field)
  /-- READ_ENTRY_LANE (R96). -/
  | readEntryLane (tag index : Field)
  /-- READ_ENTRY_ROUTE_SHADOW (R139). -/
  | readEntryRouteShadow (tag index : Field)
  /-- READ_ENTRY_ROUTE_LIVE (R139). -/
  | readEntryRouteLive (tag index : Field)
  /-- READ_ENTRY_STREAM (R71). -/
  | readEntryStream (tag index : Field)
  /-- READ_ENTRY_PATH (R22). -/
  | readEntryPath (tag index : Field)
  /-- READ_ENTRY_PROBE (R142). -/
  | readEntryProbe (tag index : Field)
  /-- READ_ENTRY_SETTINGS (R153). -/
  | readEntrySettings (tag index : Field)
  /-- WRITE_ENTRY_RULE (R57). -/
  | writeEntryRule (tag index enabled matchField compare value joined source strip take watchMode watchLimit : Field)
  /-- WRITE_ENTRY_LANE (R74). -/
  | writeEntryLane (tag index primary backup drain target window invertLeft invertRight autoReturn : Field)
  /-- WRITE_ENTRY_ROUTE_SHADOW (R123). -/
  | writeEntryRouteShadow (tag index armed laneA laneB channelMap halve mute policy : Field)
  /-- WRITE_ENTRY_PATH (R20). -/
  | writeEntryPath (tag index mode fn fd quiet room fallback : Field)
  /-- WRITE_ENTRY_SETTINGS (R153). -/
  | writeEntrySettings (tag index controlFeed replyFeed sweepInterval beaconEnabled : Field)
  /-- WRITE_ENTRY_UNWRITABLE (R17), with the fields that follow the table code. -/
  | writeEntryUnwritable (tag : Field) (table : UnwritableTable) (rest : List Field)
  /-- SWAP_ROUTES (R126), addressed to the part or as a broadcast (R152). -/
  | swapRoutes (broadcast : Bool) (tag feeds : Field)
  /-- COPY_LIVE (R125). -/
  | copyLive (tag feed : Field)
  /-- FLUSH_LANE (R93). -/
  | flushLane (tag lane : Field)
  /-- RETURN_PRIMARY (R92). -/
  | returnPrimary (tag lane : Field)
  /-- RESUME (R28). -/
  | resume (tag feed : Field)
  /-- CLEAR_STREAMS (R69). -/
  | clearStreams (tag : Field)
  /-- READ_STATUS (R158). -/
  | readStatus (tag cursor : Field)
  /-- CLEAR_NOTICE (R157). -/
  | clearNotice (tag kind subject generation : Field)
  /-- PROBE_START (R143). -/
  | probeStart (tag mode first last trigger : Field)
  /-- PROBE_STOP (R144). -/
  | probeStop (tag : Field)
  /-- RESTART (R161). -/
  | restart (tag : Field)
  /-- BAD_COMMAND (R151): a command for this part that fails the decoding of R17: the payload words behind its
  address field, and whether its sum is good. -/
  | badCommand (rest : List FeedWord) (sumGood : Bool)
  /-- BROADCAST_DISCARD (R152): a broadcast other than a valid SWAP-ROUTES, given in the same way. -/
  | broadcastDiscard (rest : List FeedWord) (sumGood : Bool)
  /-- PACKET_BEGINS (R6): the lead marks 2AAh, 155h arrive. -/
  | packetBegins (a : Arrival)
  /-- MALFORMED_HEADER (R6): the kind and span words of a packet arrive. -/
  | malformedHeader (a : Arrival) (kind span : FeedWord)
  deriving DecidableEq, Repr

end Sys2Proof
end

