-- ==== Sys2Proof/Decode.lean ====
section
/-! DEFINITION. Commands from table words. spec/opcode_table.json gives none of its rows any bits, so no word spells a
command (DESIGN CHOICE, assumption 18). -/

namespace Sys2Proof

/-- The command that the table's bits spell: none, since no row of the table has bits. -/
def decodeTableWord (_nbits _w : Nat) : Option Instr := none

end Sys2Proof
end

