-- ==== Sys2Proof/Machine/Types.lean ====
section
/-! DEFINITION. The records that State is made of, block by block (spec: 00_scope.md, Blocks). Plain data only. -/

namespace Sys2Proof.Machine

/-! ### Packets and samples (chapter 1) -/

/-- A complete packet: its kind, its payload and its sum word; the span is the payload's length (01, section 1.2). -/
structure Packet where
  kind : BitVec 8
  payload : List FeedWord
  sum : FeedWord
  deriving DecidableEq, Repr

/-- One left sample and one right sample of the same instant (00_scope.md, Terms). -/
structure SampleSet where
  left : Int
  right : Int
  deriving DecidableEq, Repr

/-- An arriving sample with the result of its check (R13). -/
structure CheckedSample where
  value : Int
  passes : Bool
  deriving DecidableEq, Repr

/-- An arriving set, each sample with its check result (R13, R47). -/
structure CheckedSet where
  left : CheckedSample
  right : CheckedSample
  deriving DecidableEq, Repr

/-- A CARRIAGE packet decoded under R12. -/
structure CarriagePayload where
  slot : Slot
  phase : Nat
  sets : List CheckedSet
  deriving DecidableEq, Repr

/-- A stream: the sound of one feed under one pair slot (00_scope.md, Terms). -/
structure Source where
  feed : Feed
  slot : Slot
  deriving DecidableEq, Repr

/-! ### Input ports (R2) -/

/-- The sync state of an input port (R2). -/
inductive Sync where
  | unsynced
  | blanking
  | picture
  deriving DecidableEq, Repr

/-- How much of a marker or picture mark the last words of a port spell, while it is not known whether they do (R1):
nothing, 3FEh, or 3FEh, 001h. -/
inductive Held where
  | nothing
  | first
  | second
  deriving DecidableEq, Repr

/-- The receive state of an input port (R2). `measuredL` is none while unmeasured. `reader` holds the words read so far of
the packet being read; it is empty while idle, and a lone 2AAh may begin a packet (R6). `held` is the recognition in
progress (R1; DEDUCED, assumption 10). -/
structure Port where
  sync : Sync
  lineCount : Nat
  framesSeen : Nat
  measuredL : Option Nat
  reader : List FeedWord
  held : Held
  deriving DecidableEq, Repr

/-! ### Classifiers (chapter 3) -/

/-- The header value a rule compares (R43). -/
inductive MatchField where
  | kind
  | slot
  | span
  deriving DecidableEq, Repr

/-- The sense of a rule's comparison (R44). -/
inductive Compare where
  | equal
  | unequal
  deriving DecidableEq, Repr

/-- The kind of watch an action part keeps (R50). `idle` is the spec's NONE. -/
inductive WatchMode where
  | idle
  | absence
  | tally
  deriving DecidableEq, Repr

/-- The state of a watch (R50). -/
inductive WatchState where
  | armed
  | expired
  deriving DecidableEq, Repr

/-- A rule entry with the running state of its watch (03, section 3.1). Bit i of `joined` says that rule i is joined. -/
structure RuleEntry where
  enabled : Bool
  matchField : MatchField
  compare : Compare
  value : Nat
  joined : BitVec 16
  source : RuleIndex
  strip : Bool
  take : Bool
  watchMode : WatchMode
  watchLimit : Nat
  watchState : WatchState
  watchCount : Nat
  deriving DecidableEq, Repr

/-- The decision of a packet (03, section 3.1). -/
structure Decision where
  decider : Option RuleIndex
  action : Option RuleIndex
  strip : Bool
  take : Bool
  deriving DecidableEq, Repr

/-! ### Stream table (chapter 4) -/

/-- A valid entry of the stream table (04, section 4.1). A free entry is `none` in the table. -/
structure StreamEntry where
  source : Source
  age : Nat
  seen : Bool
  phase : Nat
  packets : Nat
  mends : Nat
  deriving DecidableEq, Repr

/-! ### Lanes (chapter 5) and fill regulator (chapter 7) -/

/-- What a lane is doing (05, section 5.2). -/
inductive LaneState where
  | idle
  | priming
  | running
  | starved
  deriving DecidableEq, Repr

/-- Which source a lane takes its sets from (05, section 5.2). -/
inductive Active where
  | primary
  | backup
  deriving DecidableEq, Repr

/-- A lane: descriptor and lane state (05, sections 5.1 and 5.2). The fill is the length of `fifo`, oldest first. -/
structure Lane where
  primary : Option Source
  backup : Option Source
  drain : Feed
  target : Nat
  window : Nat
  invertLeft : Bool
  invertRight : Bool
  autoReturn : Bool
  state : LaneState
  active : Active
  fifo : List SampleSet
  holdLeft : Int
  holdRight : Int
  lastOut : SampleSet
  mendTally : Nat
  overrunTally : Nat
  starveTally : Nat
  deriving DecidableEq, Repr

/-- The fill regulator's record of a lane (07, section 7.1). -/
structure Regulator where
  snapshot : Nat
  drops : Nat
  repeats : Nat
  deriving DecidableEq, Repr

/-! ### Carriage unit (chapter 6) -/

/-- The carriage state of a feed (06, section 6.1). -/
structure Carriage where
  accumulator : Nat
  phase : Nat
  fresh : Bool
  frameCount : Nat
  frameLines : Nat
  frameQuiet : Nat
  linePosition : Nat
  given : Nat
  owed : Nat
  shortfall : Nat
  deriving DecidableEq, Repr

/-! ### Route maps (chapter 8) -/

/-- How a lane's two samples are arranged (R128). -/
inductive ChannelMap where
  | straight
  | swap
  | leftBoth
  | rightBoth
  | monoSum
  deriving DecidableEq, Repr

/-- Which claim wins in a collision (R136, R137). `yields` is YIELD, `overrides` is OVERRIDE. -/
inductive Policy where
  | yields
  | overrides
  deriving DecidableEq, Repr

/-- A slot entry of a route map (08, section 8.1). -/
structure SlotEntry where
  armed : Bool
  laneA : Option LaneId
  laneB : Option LaneId
  channelMap : ChannelMap
  halve : Bool
  mute : Bool
  policy : Policy
  deriving DecidableEq, Repr

/-- The route state of an output feed (08, section 8.1). -/
structure Route where
  shadow : Vector SlotEntry 8
  live : Vector SlotEntry 8
  swapPending : Bool
  clips : Vector Nat 8
  seenThis : Vector Bool 8
  seenLast : Vector Bool 8
  deriving DecidableEq, Repr

/-! ### Path timing unit (chapter 2) -/

/-- NORMAL or BYPASS (02, section 2.5). -/
inductive Mode where
  | normal
  | bypass
  deriving DecidableEq, Repr

/-- The timing state of a path (02, section 2.2). -/
inductive Timing where
  | follow
  | lost
  | recovered
  deriving DecidableEq, Repr

/-- The part of a path record that the path timing unit maintains (02, section 2.1), with the loss timer of R23: the
instant of its last restart, or none while it is stopped. -/
structure Path where
  requested : Mode
  inForce : Mode
  fn : Nat
  fd : Nat
  quiet : Nat
  room : Nat
  fallback : Nat
  timing : Timing
  resumePending : Bool
  lossTimer : Option Nat
  deriving DecidableEq, Repr

/-- A generated frame in progress: its start, its tick period, its line count, the next line to begin, and the instant at
which the line in progress began (R32, R33). -/
structure GenFrame where
  start : Nat
  period : Nat
  lines : Nat
  next : Nat
  begun : Nat
  deriving DecidableEq, Repr

/-- How a packet of an input line came to the line assembler: decided by the classifier, with its strip item and its
sum result (R46), or left on the feed by the control channel (R150). -/
inductive Origin where
  | decided (strip good : Bool)
  | leftCommand
  deriving DecidableEq, Repr

/-- A packet of an input line as the line assembler holds it. -/
structure LinePacket where
  packet : Packet
  origin : Origin
  deriving DecidableEq, Repr

/-- An output line that has begun (R5, R131). `room` is its B (R21); `packets` are the packets of its input line so far, in
completion order; `made` counts the assembly steps made of it, `replies` says, from its beacon step on, whether its replies
step may place replies (R131, R133), and `placed` are the packets placed on it. `blanking` is the length of its blanking
space, as far as it has come; `picture` is the picture as far as it has come, none before the picture mark. -/
structure Line where
  index : Nat
  frameMarker : Bool
  generated : Bool
  room : Nat
  packets : List LinePacket
  made : Nat
  replies : Bool
  placed : List Packet
  blanking : Nat
  picture : Option (List FeedWord)
  deriving DecidableEq, Repr

/-- What an output port is doing: dark (no words), a line, or running on in black behind the words of a cut line (R33,
R131). -/
inductive Output where
  | dark
  | line (l : Line)
  | blackRun (words : List FeedWord)
  deriving DecidableEq, Repr

/-- The reference state of the tick generator (R38). -/
inductive Reference where
  | present
  | absent
  deriving DecidableEq, Repr

/-- The tick generator (R38). A timer is the instant of its last restart, or none while stopped; `lastPulse` is the
instant of the previous pulse of R39. -/
structure TickGen where
  reference : Reference
  period : Option Nat
  lastPulse : Option Nat
  count : Nat
  absenceTimer : Option Nat
  freewheelTimer : Option Nat
  deriving DecidableEq, Repr

/-! ### Level probe (chapter 9) -/

/-- The probe's mode (09, section 9.1). -/
inductive ProbeMode where
  | single
  | repeating
  | sweep
  | repeatSweep
  deriving DecidableEq, Repr

/-- The probe's trigger (09, section 9.1). -/
inductive Trigger where
  | command
  | house
  deriving DecidableEq, Repr

/-- The probe's settings (09, section 9.1). -/
structure ProbeSettings where
  mode : ProbeMode
  first : LaneId
  last : LaneId
  trigger : Trigger
  deriving DecidableEq, Repr

/-- The working record of an open window (09, section 9.1). -/
structure ProbeWork where
  peakLeft : Nat
  peakRight : Nat
  overLeft : Nat
  overRight : Nat
  running : Bool
  deriving DecidableEq, Repr

/-- The run state, with the current lane while not STOPPED, and the window feed and working record while MEASURING
(DEDUCED, assumption 16). -/
inductive ProbeRun where
  | stopped
  | awaitTick (lane : LaneId)
  | awaitFrame (lane : LaneId)
  | measuring (lane : LaneId) (feed : Feed) (work : ProbeWork)
  deriving DecidableEq, Repr

/-- A result record (09, section 9.1). -/
structure ProbeResult where
  peakLeft : Nat
  peakRight : Nat
  overLeft : Nat
  overRight : Nat
  complete : Bool
  pass : Nat
  deriving DecidableEq, Repr

/-- The level probe (09, section 9.1). -/
structure Probe where
  settings : ProbeSettings
  run : ProbeRun
  results : Vector ProbeResult 32
  deriving DecidableEq, Repr

/-! ### Control channel (chapter 10) -/

/-- The SETTINGS entry (R153). -/
structure Settings where
  controlFeed : Feed
  replyFeed : Feed
  sweepInterval : Nat
  beaconEnabled : Bool
  deriving DecidableEq, Repr

/-- A command in the command queue: its fields, whether words were left over, its sum result, and whether it was taken
as a broadcast (10, introduction; R15). -/
structure Command where
  fields : List Nat
  ragged : Bool
  sumGood : Bool
  broadcast : Bool
  deriving DecidableEq, Repr

/-- A reply in the reply queue: its fields (10, introduction). -/
structure Reply where
  fields : List Nat
  deriving DecidableEq, Repr

/-- A record of the notice table (R155). -/
structure NoticeRecord where
  raised : Bool
  generation : Nat
  deriving DecidableEq, Repr

/-- A notice kind with its subject: the records of the notice table (R155). -/
inductive Notice where
  | inputLost (f : Feed)
  | inputReturned (f : Feed)
  | rasterChange (f : Feed)
  | houseLost
  | houseReturned
  | watchExpired (f : Feed) (e : RuleIndex)
  | tallyReached (f : Feed) (e : RuleIndex)
  | streamTableFull
  | laneFailover (l : LaneId)
  | laneStarved (l : LaneId)
  | laneOverrun (l : LaneId)
  | slotCollision (f : Feed) (s : Slot)
  | carriageShortfall (f : Feed)
  | commandOverrun
  | probeDone
  deriving DecidableEq, Repr

/-- The outcome codes of R18. -/
inductive OutcomeCode where
  | done
  | adjusted
  | badCommand
  | badTable
  | badValue
  | badIndex
  | routeConflict
  | laneInUse
  | pending
  | stale
  | persists
  | noSignal
  deriving DecidableEq, Repr

end Sys2Proof.Machine
end

