-- ==== Sys2Proof/Machine/Packets.lean ====
section
/-! DEFINITION. The word layouts of chapter 1: markers, packets and their sums, carriage payloads and samples, fields,
and the words of an output line. -/

namespace Sys2Proof.Machine

/-! ### Words (01, section 1.1) -/

/-- The data byte of a word. -/
def dataByte (w : FeedWord) : Nat := w.toNat % 256

/-- The flag of a word. -/
def wordFlag (w : FeedWord) : Nat := w.toNat / 256 % 2

/-- The two lead marks of a packet (01, section 1.2). -/
def leadMarks : List FeedWord := [0x2AA#10, 0x155#10]

def lineMarkerWords : List FeedWord := [0x3FE#10, 0x001#10, 0x0A5#10]
def frameMarkerWords : List FeedWord := [0x3FE#10, 0x001#10, 0x15A#10]
def pictureMarkWords : List FeedWord := [0x3FE#10, 0x001#10, 0x0C3#10]
def idleWord : FeedWord := 0x080#10
def blackWord : FeedWord := 0x040#10

/-! ### Packet kinds (R8) -/

def kindCarriage : BitVec 8 := 0x60#8
def kindCommand : BitVec 8 := 0x61#8
def kindReply : BitVec 8 := 0x62#8
def kindBeacon : BitVec 8 := 0x63#8
def kindSpoilt : BitVec 8 := 0x6F#8

/-! ### Packets and sums (R6, R7) -/

/-- The span of a packet: the number of its payload words. -/
def Packet.span (k : Packet) : Nat := k.payload.length

/-- The words a packet occupies. -/
def Packet.size (k : Packet) : Nat := k.span + 5

/-- The sum word of a kind and a payload: kind plus span plus every payload word, modulo 1024 (R7). -/
def sumWord (kind : BitVec 8) (payload : List FeedWord) : FeedWord :=
  BitVec.ofNat 10 (kind.toNat + payload.length + (payload.map BitVec.toNat).sum)

/-- A packet the part emits, with the sum of R7. -/
def makePacket (kind : BitVec 8) (payload : List FeedWord) : Packet :=
  { kind := kind, payload := payload, sum := sumWord kind payload }

/-- The words of a packet behind its lead marks (01, section 1.2). -/
def packetTail (kind : BitVec 8) (payload : List FeedWord) (sum : FeedWord) : List FeedWord :=
  [kind.setWidth 10, BitVec.ofNat 10 payload.length] ++ payload ++ [sum]

/-- The words of a packet (01, section 1.2). -/
def Packet.words (k : Packet) : List FeedWord :=
  leadMarks ++ packetTail k.kind k.payload k.sum

/-- The pair slot of a head word (R11). -/
def headSlot (w : FeedWord) : Slot := Fin.ofNat 8 w.toNat

/-- The set count of a head word (R11). -/
def headCount (w : FeedWord) : Nat := w.toNat / 8 % 8

/-- The cadence phase of a head word (R11). -/
def headPhase (w : FeedWord) : Nat := w.toNat / 64

/-- The head word of a slot, a set count and a phase (R11). -/
def headWord (slot : Slot) (count phase : Nat) : FeedWord :=
  BitVec.ofNat 10 (slot.val + 8 * count + 64 * phase)

/-- The two further conditions on a CARRIAGE packet (R7). A payload without a head word carries no set count and fails
(R43). -/
def carriageShape (payload : List FeedWord) : Bool :=
  match payload with
  | [] => false
  | head :: _ => headCount head ≤ 4 && payload.length == 1 + 6 * headCount head

/-- The sum check of a complete packet (R7). -/
def Packet.good (k : Packet) : Bool :=
  k.sum == sumWord k.kind k.payload && (k.kind != kindCarriage || carriageShape k.payload)

/-! ### Samples (R11 to R13) -/

/-- The sample that a 24-bit code stands for (R12). -/
def sampleOfCode (code : Nat) : Int :=
  if code < 8388608 then (code : Int) else (code : Int) - 16777216

/-- The 24-bit code of a sample (R12). -/
def codeOfSample (v : Int) : Nat := (if 0 ≤ v then v else v + 16777216).toNat

/-- The ones among the 24 bits of a code (R13). -/
def onesOfCode (code : Nat) : Nat := ((List.range 24).filter fun i => code.testBit i).length

/-- The sample in three words, with its check result (R13). -/
def readSample (low middle high : FeedWord) : CheckedSample :=
  let code := dataByte low + 256 * dataByte middle + 65536 * dataByte high
  { value := sampleOfCode code, passes := (onesOfCode code + wordFlag high) % 2 == 0 }

/-- The three words of a sample, with the check bit that makes the count of ones even (R13, R14). -/
def writeSample (v : Int) : List FeedWord :=
  let code := codeOfSample v
  [BitVec.ofNat 10 (code % 256), BitVec.ofNat 10 (code / 256 % 256),
    BitVec.ofNat 10 (code / 65536 % 256 + 256 * (onesOfCode code % 2))]

/-- The sets that follow the head word, six words a set (R11). -/
def readSets : List FeedWord → List CheckedSet
  | a :: b :: c :: d :: e :: f :: rest => { left := readSample a b c, right := readSample d e f } :: readSets rest
  | _ => []

/-- A carriage payload decoded under R12, when it has a head word. -/
def readCarriage (payload : List FeedWord) : Option CarriagePayload :=
  match payload with
  | [] => none
  | head :: rest => some { slot := headSlot head, phase := headPhase head, sets := readSets rest }

/-- The number of failing samples among sets (R13). -/
def failingSamples (sets : List CheckedSet) : Nat :=
  (sets.map fun c => (if c.left.passes then 0 else 1) + (if c.right.passes then 0 else 1)).sum

/-- The CARRIAGE packet of a slot, a phase and the sets it carries (R14). -/
def carriagePacket (slot : Slot) (phase : Nat) (sets : List SampleSet) : Packet :=
  makePacket kindCarriage
    (headWord slot sets.length phase :: sets.flatMap fun x => writeSample x.left ++ writeSample x.right)

/-! ### Fields (R15, R16) -/

/-- The value of a field's three words (R15). -/
def readField (a b c : FeedWord) : Nat := dataByte a + 256 * dataByte b + 65536 * dataByte c

/-- The fields of a payload; one or two words left over make it ragged (R15). -/
def readFields : List FeedWord → List Nat
  | a :: b :: c :: rest => readField a b c :: readFields rest
  | _ => []

/-- The three words of a field, flags and top bits 0 (R15). -/
def writeField (v : Nat) : List FeedWord :=
  [BitVec.ofNat 10 (v % 256), BitVec.ofNat 10 (v / 256 % 256), BitVec.ofNat 10 (v / 65536 % 256)]

/-- The payload of a list of fields (R15). -/
def writeFields (fields : List Nat) : List FeedWord := fields.flatMap writeField

/-- The packet of a reply (R16). -/
def Reply.packet (r : Reply) : Packet := makePacket kindReply (writeFields r.fields)

/-- The words a reply occupies: 3 × f + 5 (R16). -/
def Reply.size (r : Reply) : Nat := 3 * r.fields.length + 5

/-- The words a beacon occupies (R16). -/
def beaconSize : Nat := 17

/-- The header value SLOT: only a CARRIAGE packet with a payload has one (R43). -/
def Packet.slot? (k : Packet) : Option Slot :=
  if k.kind = kindCarriage then k.payload.head?.map headSlot else none

/-- A packet with its kind word written as 6Fh, every other word as it was (R9). -/
def Packet.spoilt (k : Packet) : Packet := { k with kind := kindSpoilt }

/-! ### Lines (R5) -/

/-- The words of packets laid one behind another. -/
def packetWords (ps : List Packet) : List FeedWord := ps.flatMap Packet.words

/-- The words that packets occupy. -/
def packetsSize (ps : List Packet) : Nat := (ps.map Packet.size).sum

/-! ### The words of an output line (R5) -/

/-- The marker of a line (R5). -/
def Line.markerWords (l : Line) : List FeedWord := if l.frameMarker then frameMarkerWords else lineMarkerWords

/-- The blanking space of a line: its packets, then idle words up to its length; packets that hold more words lengthen
the line (R5). -/
def Line.blankingWords (l : Line) : List FeedWord :=
  packetWords l.placed ++ List.replicate (l.blanking - (packetWords l.placed).length) idleWord

/-- The words of a line up to its picture mark. -/
def Line.openingWords (l : Line) : List FeedWord := l.markerWords ++ l.blankingWords

/-- The picture mark and the picture: the words of the input line's picture, and `black` black words on a generated line;
nothing on a line without a picture (R5, R32). -/
def Line.pictureWords (l : Line) (black : Nat) : List FeedWord :=
  match l.picture with
  | none => []
  | some ws => pictureMarkWords ++ ws ++ if l.generated then List.replicate black blackWord else []

/-- The place at which the picture mark of a line ends: the words up to it, and its own (R5). -/
def Line.markEnd (l : Line) : Nat := l.openingWords.length + pictureMarkWords.length

/-- The words of a line (R5). -/
def Line.words (l : Line) (black : Nat) : List FeedWord := l.openingWords ++ l.pictureWords black

/-- The words of a line cut by a loss of feed when `n` of them were written: those, and the picture mark when the line had
not reached it (R33, R131). -/
def Line.cutWords (l : Line) (n : Nat) : List FeedWord :=
  if l.picture.isSome ∧ l.markEnd ≤ n then (l.words 0).take n
  else l.openingWords.take n ++ pictureMarkWords

/-- The words of what an output port is doing, ended after `black` black words (R5, R33). -/
def Output.words (o : Output) (black : Nat) : List FeedWord :=
  match o with
  | .dark => []
  | .line l => l.words black
  | .blackRun ws => ws ++ List.replicate black blackWord

/-! ### Markers and picture marks among feed words (R1) -/

/-- The three sequences that a port recognises (R1). -/
inductive Mark where
  | line
  | frame
  | picture
  deriving DecidableEq, Repr

/-- The mark that a type word behind 3FEh, 001h makes (R1). -/
def mark? (w : FeedWord) : Option Mark :=
  if w = 0x0A5#10 then some .line else if w = 0x15A#10 then some .frame else if w = 0x0C3#10 then some .picture
  else none

/-- The words of a mark (01, section 1.1). -/
def Mark.words (m : Mark) : List FeedWord :=
  match m with
  | .line => lineMarkerWords
  | .frame => frameMarkerWords
  | .picture => pictureMarkWords

/-- The words held back. -/
def Held.words (h : Held) : List FeedWord :=
  match h with
  | .nothing => []
  | .first => [0x3FE#10]
  | .second => [0x3FE#10, 0x001#10]

/-- What one more word makes of a recognition: the words now known to belong to no mark, the mark it completes, and what
is held back (R1). -/
structure Recognised where
  plain : List FeedWord
  mark : Option Mark
  held : Held
  deriving DecidableEq, Repr

/-- The word `w` behind words of which none is held back (R1). -/
def recogniseFresh (before : List FeedWord) (w : FeedWord) : Recognised :=
  if w = 0x3FE#10 then { plain := before, mark := none, held := .first }
  else { plain := before ++ [w], mark := none, held := .nothing }

/-- One more word: a mark is recognised at every position; a 3FEh, 001h without a type word are ordinary words, and
recognition restarts at the word after the 3FEh (R1). -/
def recognise (h : Held) (w : FeedWord) : Recognised :=
  match h with
  | .nothing => recogniseFresh [] w
  | .first => if w = 0x001#10 then { plain := [], mark := none, held := .second } else recogniseFresh h.words w
  | .second =>
    match mark? w with
    | some m => { plain := [], mark := some m, held := .nothing }
    | none => recogniseFresh h.words w

/-- What the words of a list make of a recognition: ordinary words and marks, in order, and what is held back (R1). -/
def recogniseAll (h : Held) : List FeedWord → List (FeedWord ⊕ Mark) × Held
  | [] => ([], h)
  | w :: ws =>
    let r := recognise h w
    let rest := recogniseAll r.held ws
    (r.plain.map .inl ++ (r.mark.map .inr).toList ++ rest.1, rest.2)

/-- Whether words, arriving with nothing held back, are ordinary words to the last: they spell no mark and end in no
beginning of one. -/
def plainWords (ws : List FeedWord) : Bool :=
  (recogniseAll .nothing ws).1.all Sum.isLeft && (recogniseAll .nothing ws).2 == .nothing

/-- Whether words spell a mark that `pick` picks. -/
def spells (pick : Mark → Bool) (ws : List FeedWord) : Bool :=
  (recogniseAll .nothing ws).1.any fun t => t.elim (fun _ => false) pick

/-! ### Packets among blanking words (R6) -/

/-- The packet reader with one more blanking word: the words read so far, and the packet that the word completes (R6). A
2AAh followed at once by 155h begins a packet; a kind or span word above 0FFh makes the header malformed; the sum word
completes the packet. -/
def readWord (r : List FeedWord) (w : FeedWord) : List FeedWord × Option Packet :=
  match r with
  | [] => (if w = 0x2AA#10 then [w] else [], none)
  | [a] => (if w = 0x155#10 then [a, w] else if w = 0x2AA#10 then [w] else [], none)
  | [a, b] => ([a, b, w], none)
  | [a, b, kind] => (if 0xFF#10 < kind ∨ 0xFF#10 < w then [] else [a, b, kind, w], none)
  | a :: b :: kind :: span :: payload =>
    if payload.length < span.toNat then (a :: b :: kind :: span :: (payload ++ [w]), none)
    else ([], some { kind := kind.setWidth 8, payload := payload, sum := w })

end Sys2Proof.Machine
end

