-- ==== Sys2Proof/Machine/ResetValues.lean ====
section
/-! DEFINITION. The values each block holds after power-on reset and after RESTART. -/

namespace Sys2Proof.Machine

/-- The receive state of a port after either reset (R2). -/
def portReset : Port :=
  { sync := .unsynced, lineCount := 0, framesSeen := 0, measuredL := none, reader := [], held := .nothing }

/-- A rule entry after either reset (R59); `e` is its own index. -/
def ruleReset (e : RuleIndex) : RuleEntry :=
  { enabled := false, matchField := .kind, compare := .equal, value := 0, joined := 0#16, source := e,
    strip := false, take := true, watchMode := .idle, watchLimit := 1, watchState := .armed, watchCount := 0 }

/-- The set of two zero samples (R77, R85). -/
def zeroSet : SampleSet := { left := 0, right := 0 }

/-- A lane after either reset (R98). -/
def laneReset : Lane :=
  { primary := none, backup := none, drain := 0, target := 960, window := 48, invertLeft := false,
    invertRight := false, autoReturn := false, state := .idle, active := .primary, fifo := [], holdLeft := 0,
    holdRight := 0, lastOut := zeroSet, mendTally := 0, overrunTally := 0, starveTally := 0 }

/-- The regulator's record after either reset (R113). -/
def regulatorReset : Regulator := { snapshot := 0, drops := 0, repeats := 0 }

/-- The carriage state after either reset (R99). -/
def carriageReset : Carriage :=
  { accumulator := 0, phase := 0, fresh := true, frameCount := 0, frameLines := 1, frameQuiet := 0,
    linePosition := 0, given := 0, owed := 0, shortfall := 0 }

/-- A slot entry after either reset (R141). -/
def slotReset : SlotEntry :=
  { armed := false, laneA := none, laneB := none, channelMap := .straight, halve := false, mute := false,
    policy := .yields }

/-- The route state of a feed after either reset (R141). -/
def routeReset : Route :=
  { shadow := Vector.replicate 8 slotReset, live := Vector.replicate 8 slotReset, swapPending := false,
    clips := Vector.replicate 8 0, seenThis := Vector.replicate 8 false, seenLast := Vector.replicate 8 false }

/-- A path record after either reset, with its loss timer stopped (R22, R23). -/
def pathReset : Path :=
  { requested := .bypass, inForce := .bypass, fn := 25000, fd := 1000, quiet := 0, room := 268, fallback := 1125,
    timing := .lost, resumePending := false, lossTimer := none }

/-- The tick generator after either reset at the instant `now` (R39). -/
def tickReset (now : Nat) : TickGen :=
  { reference := .present, period := none, lastPulse := none, count := 0, absenceTimer := some now,
    freewheelTimer := none }

/-- A result record of the probe after either reset (R142). -/
def resultReset : ProbeResult :=
  { peakLeft := 0, peakRight := 0, overLeft := 0, overRight := 0, complete := false, pass := 0 }

/-- The probe after either reset (R142). -/
def probeReset : Probe :=
  { settings := { mode := .single, first := 0, last := 0, trigger := .command }, run := .stopped,
    results := Vector.replicate 32 resultReset }

/-- A notice record after either reset (R160, R161). -/
def noticeReset : NoticeRecord := { raised := false, generation := 0 }

/-- The device address that the address straps give: 15 is taken as 14 (R160). -/
def addressOfStraps (straps : Fin 16) : Fin 15 :=
  if h : straps.val < 15 then ⟨straps.val, h⟩ else 14

/-- The SETTINGS entry after power-on reset, from the control-feed straps (R160). -/
def settingsReset (feedStraps : Feed) : Settings :=
  { controlFeed := feedStraps, replyFeed := feedStraps, sweepInterval := 25, beaconEnabled := true }

end Sys2Proof.Machine
end

