-- ==== Sys2Proof/Machine/Operands.lean ====
section
/-! DEFINITION. The operands of commands: the code lists of R18, the entry layouts of R19, the decoding of R17, and the
judging of the fields of a write that needs no state. -/

namespace Sys2Proof.Machine

/-! ### Codes (R18) -/

def OutcomeCode.code : OutcomeCode → Nat
  | .done => 0
  | .adjusted => 1
  | .badCommand => 2
  | .badTable => 3
  | .badValue => 4
  | .badIndex => 5
  | .routeConflict => 6
  | .laneInUse => 7
  | .pending => 8
  | .stale => 9
  | .persists => 10
  | .noSignal => 11

def yesNo (b : Bool) : Nat := if b then 1 else 0

def yesNo? (n : Nat) : Option Bool := if n = 0 then some false else if n = 1 then some true else none

/-- A number below `n`, as an index. -/
def index? (n v : Nat) : Option (Fin n) := if h : v < n then some ⟨v, h⟩ else none

/-- A source: 8 × feed + slot (R18). -/
def Source.code (x : Source) : Nat := 8 * x.feed.val + x.slot.val

/-- A source or absent: 255 when absent (R18). -/
def sourceCode (x : Option Source) : Nat :=
  match x with
  | none => 255
  | some y => y.code

/-- A source field: 0 to 63, or 255 for absent (R18). The outer none is a value outside the list. -/
def source? (v : Nat) : Option (Option Source) :=
  if v = 255 then some none
  else if v < 64 then some (some { feed := Fin.ofNat 8 (v / 8), slot := Fin.ofNat 8 v })
  else none

/-- A lane reference or absent: 255 when absent (R18). -/
def laneCode (x : Option LaneId) : Nat :=
  match x with
  | none => 255
  | some l => l.val

/-- A lane reference field: 0 to 31, or 255 for absent (R18). -/
def laneRef? (v : Nat) : Option (Option LaneId) :=
  if v = 255 then some none else (index? 32 v).map some

def Mode.code : Mode → Nat
  | .normal => 0
  | .bypass => 1

def mode? (v : Nat) : Option Mode :=
  match v with
  | 0 => some .normal
  | 1 => some .bypass
  | _ => none

def Timing.code : Timing → Nat
  | .follow => 0
  | .lost => 1
  | .recovered => 2

def MatchField.code : MatchField → Nat
  | .kind => 0
  | .slot => 1
  | .span => 2

def matchField? (v : Nat) : Option MatchField :=
  match v with
  | 0 => some .kind
  | 1 => some .slot
  | 2 => some .span
  | _ => none

def Compare.code : Compare → Nat
  | .equal => 0
  | .unequal => 1

def compare? (v : Nat) : Option Compare :=
  match v with
  | 0 => some .equal
  | 1 => some .unequal
  | _ => none

def WatchMode.code : WatchMode → Nat
  | .idle => 0
  | .absence => 1
  | .tally => 2

def watchMode? (v : Nat) : Option WatchMode :=
  match v with
  | 0 => some .idle
  | 1 => some .absence
  | 2 => some .tally
  | _ => none

def WatchState.code : WatchState → Nat
  | .armed => 0
  | .expired => 1

def LaneState.code : LaneState → Nat
  | .idle => 0
  | .priming => 1
  | .running => 2
  | .starved => 3

def Active.code : Active → Nat
  | .primary => 0
  | .backup => 1

def ChannelMap.code : ChannelMap → Nat
  | .straight => 0
  | .swap => 1
  | .leftBoth => 2
  | .rightBoth => 3
  | .monoSum => 4

def channelMap? (v : Nat) : Option ChannelMap :=
  match v with
  | 0 => some .straight
  | 1 => some .swap
  | 2 => some .leftBoth
  | 3 => some .rightBoth
  | 4 => some .monoSum
  | _ => none

def Policy.code : Policy → Nat
  | .yields => 0
  | .overrides => 1

def policy? (v : Nat) : Option Policy :=
  match v with
  | 0 => some .yields
  | 1 => some .overrides
  | _ => none

def probeMode? (v : Nat) : Option ProbeMode :=
  match v with
  | 0 => some .single
  | 1 => some .repeating
  | 2 => some .sweep
  | 3 => some .repeatSweep
  | _ => none

def trigger? (v : Nat) : Option Trigger :=
  match v with
  | 0 => some .command
  | 1 => some .house
  | _ => none

/-! ### The fields of each write layout (R19) -/

/-- The fields of a RULE write, as they arrived. -/
structure RuleWrite where
  enabled : Nat
  matchField : Nat
  compare : Nat
  value : Nat
  joined : Nat
  source : Nat
  strip : Nat
  take : Nat
  watchMode : Nat
  watchLimit : Nat
  deriving DecidableEq, Repr

/-- The fields of a LANE write, as they arrived. -/
structure LaneWrite where
  primary : Nat
  backup : Nat
  drain : Nat
  target : Nat
  window : Nat
  invertLeft : Nat
  invertRight : Nat
  autoReturn : Nat
  deriving DecidableEq, Repr

/-- The fields of a ROUTE-SHADOW write, as they arrived. -/
structure SlotWrite where
  armed : Nat
  laneA : Nat
  laneB : Nat
  channelMap : Nat
  halve : Nat
  mute : Nat
  policy : Nat
  deriving DecidableEq, Repr

/-- The fields of a PATH write, as they arrived. -/
structure PathWrite where
  mode : Nat
  fn : Nat
  fd : Nat
  quiet : Nat
  room : Nat
  fallback : Nat
  deriving DecidableEq, Repr

/-- The fields of a SETTINGS write, as they arrived. -/
structure SettingsWrite where
  controlFeed : Nat
  replyFeed : Nat
  sweepInterval : Nat
  beaconEnabled : Nat
  deriving DecidableEq, Repr

/-! ### Decoding a command (R17) -/

/-- A command that has passed the decoding of R17, with its arguments still to be judged. -/
inductive Op where
  | readRule (index : Nat)
  | readLane (index : Nat)
  | readRouteShadow (index : Nat)
  | readRouteLive (index : Nat)
  | readStream (index : Nat)
  | readPath (index : Nat)
  | readProbe (index : Nat)
  | readSettings (index : Nat)
  | writeRule (index : Nat) (w : RuleWrite)
  | writeLane (index : Nat) (w : LaneWrite)
  | writeRouteShadow (index : Nat) (w : SlotWrite)
  | writePath (index : Nat) (w : PathWrite)
  | writeSettings (index : Nat) (w : SettingsWrite)
  | swapRoutes (feeds : Nat)
  | copyLive (feed : Nat)
  | flushLane (lane : Nat)
  | returnPrimary (lane : Nat)
  | resume (feed : Nat)
  | clearStreams
  | readStatus (cursor : Nat)
  | clearNotice (kind subject generation : Nat)
  | probeStart (mode first last trigger : Nat)
  | probeStop
  | restart
  deriving DecidableEq, Repr

/-- The arguments of a READ-ENTRY: the table code is judged before their number (R17). -/
def decodeRead (args : List Nat) : Except OutcomeCode Op :=
  match args with
  | [] => .error .badCommand
  | table :: rest =>
    if 1 ≤ table ∧ table ≤ 8 then
      match rest with
      | [i] =>
        match table with
        | 1 => .ok (.readRule i)
        | 2 => .ok (.readLane i)
        | 3 => .ok (.readRouteShadow i)
        | 4 => .ok (.readRouteLive i)
        | 5 => .ok (.readStream i)
        | 6 => .ok (.readPath i)
        | 7 => .ok (.readProbe i)
        | _ => .ok (.readSettings i)
      | _ => .error .badCommand
    else .error .badTable

/-- The arguments of a WRITE-ENTRY: an unknown table and a table without a write layout are refused with BAD-TABLE
before the number of arguments is judged (R17). -/
def decodeWrite (args : List Nat) : Except OutcomeCode Op :=
  match args with
  | [] => .error .badCommand
  | table :: rest =>
    match table with
    | 1 =>
      match rest with
      | [i, a, b, c, d, e, f, g, h, j, k] => .ok (.writeRule i ⟨a, b, c, d, e, f, g, h, j, k⟩)
      | _ => .error .badCommand
    | 2 =>
      match rest with
      | [i, a, b, c, d, e, f, g, h] => .ok (.writeLane i ⟨a, b, c, d, e, f, g, h⟩)
      | _ => .error .badCommand
    | 3 =>
      match rest with
      | [i, a, b, c, d, e, f, g] => .ok (.writeRouteShadow i ⟨a, b, c, d, e, f, g⟩)
      | _ => .error .badCommand
    | 6 =>
      match rest with
      | [i, a, b, c, d, e, f] => .ok (.writePath i ⟨a, b, c, d, e, f⟩)
      | _ => .error .badCommand
    | 8 =>
      match rest with
      | [i, a, b, c, d] => .ok (.writeSettings i ⟨a, b, c, d⟩)
      | _ => .error .badCommand
    | _ => .error .badTable

/-- A command code and its arguments (R17, R18). -/
def decodeCode (code : Nat) (args : List Nat) : Except OutcomeCode Op :=
  match code with
  | 1 => decodeRead args
  | 2 => decodeWrite args
  | 3 => match args with | [x] => .ok (.swapRoutes x) | _ => .error .badCommand
  | 4 => match args with | [x] => .ok (.copyLive x) | _ => .error .badCommand
  | 5 => match args with | [x] => .ok (.flushLane x) | _ => .error .badCommand
  | 6 => match args with | [x] => .ok (.returnPrimary x) | _ => .error .badCommand
  | 7 => match args with | [x] => .ok (.resume x) | _ => .error .badCommand
  | 8 => match args with | [] => .ok .clearStreams | _ => .error .badCommand
  | 9 => match args with | [x] => .ok (.readStatus x) | _ => .error .badCommand
  | 10 => match args with | [x, y, z] => .ok (.clearNotice x y z) | _ => .error .badCommand
  | 11 => match args with | [a, b, c, d] => .ok (.probeStart a b c d) | _ => .error .badCommand
  | 12 => match args with | [] => .ok .probeStop | _ => .error .badCommand
  | 13 => match args with | [] => .ok .restart | _ => .error .badCommand
  | _ => .error .badCommand

/-- The decoding of a command (R17): its sum, its payload, its number of fields, then its code and arguments. -/
def Command.decode (c : Command) : Except OutcomeCode Op :=
  if !c.sumGood || c.ragged then .error .badCommand
  else
    match c.fields with
    | _ :: _ :: code :: args => decodeCode code args
    | _ => .error .badCommand

/-- The tag of a command, 0 when it is too short to hold one (R16). -/
def Command.tag (c : Command) : Nat :=
  match c.fields with
  | _ :: t :: _ => t
  | _ => 0

/-- The command that a COMMAND packet's payload holds; its first field 15 makes it a broadcast (R149). -/
def Command.ofPayload (payload : List FeedWord) (sumGood : Bool) : Command :=
  { fields := readFields payload, ragged := payload.length % 3 != 0, sumGood := sumGood,
    broadcast := (readFields payload).head? == some 15 }

/-- The command whose address field is `address` and whose payload goes on with the words `rest` (R15, R17). -/
def commandOfWords (address : Nat) (rest : List FeedWord) (sumGood broadcast : Bool) : Command :=
  { fields := address :: readFields rest, ragged := rest.length % 3 != 0, sumGood := sumGood, broadcast := broadcast }

/-- The feed set of a broadcast that executes (R152): a SWAP-ROUTES with a good sum, a whole payload of exactly four
fields and a feed set of 0 to 255. -/
def Command.broadcastSwap? (c : Command) : Option Nat :=
  match c.decode with
  | .ok (.swapRoutes feeds) => if feeds ≤ 255 then some feeds else none
  | _ => none

/-! ### Judging the fields of a write (R57, R74, R123, R20, R153) -/

/-- A value brought to the nearest end of its range (00_scope.md, Clamped). -/
def clampTo (lo hi v : Nat) : Nat := max lo (min hi v)

/-- Whether clamping changes a value. -/
def outside (lo hi v : Nat) : Bool := v < lo || hi < v

/-- A rule write judged whole (R57): the entry as stored, its watch restarted (R54), or none when a field is refused. -/
def judgeRule (w : RuleWrite) : Option RuleEntry := do
  let enabled ← yesNo? w.enabled
  let matchField ← matchField? w.matchField
  let compare ← compare? w.compare
  let value ← index? 256 w.value
  let joined ← index? 65536 w.joined
  let source ← index? 16 w.source
  let strip ← yesNo? w.strip
  let take ← yesNo? w.take
  let watchMode ← watchMode? w.watchMode
  some { enabled := enabled, matchField := matchField, compare := compare, value := value.val,
         joined := BitVec.ofNat 16 joined.val, source := source, strip := strip, take := take,
         watchMode := watchMode, watchLimit := clampTo 1 4095 w.watchLimit, watchState := .armed, watchCount := 0 }

/-- A lane descriptor as a write carries it, judged and clamped. -/
structure LaneDescriptor where
  primary : Option Source
  backup : Option Source
  drain : Feed
  target : Nat
  window : Nat
  invertLeft : Bool
  invertRight : Bool
  autoReturn : Bool
  deriving DecidableEq, Repr

/-- The first step of R74: the descriptor with T and W clamped, or none when a field is refused. -/
def judgeLane (w : LaneWrite) : Option LaneDescriptor := do
  let primary ← source? w.primary
  let backup ← source? w.backup
  let drain ← index? 8 w.drain
  let invertLeft ← yesNo? w.invertLeft
  let invertRight ← yesNo? w.invertRight
  let autoReturn ← yesNo? w.autoReturn
  if backup.isSome ∧ (primary = backup ∨ primary = none) then none
  else
    some { primary := primary, backup := backup, drain := drain, target := clampTo 16 1984 w.target,
           window := clampTo 4 256 w.window, invertLeft := invertLeft, invertRight := invertRight,
           autoReturn := autoReturn }

/-- The second step of R123: the slot entry, or none when a field is refused. -/
def judgeSlot (w : SlotWrite) : Option SlotEntry := do
  let armed ← yesNo? w.armed
  let laneA ← laneRef? w.laneA
  let laneB ← laneRef? w.laneB
  let channelMap ← channelMap? w.channelMap
  let halve ← yesNo? w.halve
  let mute ← yesNo? w.mute
  let policy ← policy? w.policy
  some { armed := armed, laneA := laneA, laneB := laneB, channelMap := channelMap, halve := halve, mute := mute,
         policy := policy }

/-- N, the sets owed in Fd seconds (00_scope.md, Symbols). -/
def setsPerCadence (fd : Nat) : Nat := 48000 * fd

/-- K, the cadence length: Fn by the greatest common divisor of N and Fn (R20, R102). -/
def cadenceLength (fn fd : Nat) : Nat := fn / Nat.gcd (setsPerCadence fd) fn

/-- The six written fields of a path record, judged and clamped. -/
structure PathSettings where
  mode : Mode
  fn : Nat
  fd : Nat
  quiet : Nat
  room : Nat
  fallback : Nat
  deriving DecidableEq, Repr

/-- The judging of R20: the fields with Q, B and Lf clamped, or none when one is refused. -/
def judgePath (w : PathWrite) : Option PathSettings := do
  let mode ← mode? w.mode
  if 12000 ≤ w.fn ∧ w.fn ≤ 120000 ∧ (w.fd = 1000 ∨ w.fd = 1001) ∧ cadenceLength w.fn w.fd ≤ 16 then
    some { mode := mode, fn := w.fn, fd := w.fd, quiet := clampTo 0 15 w.quiet, room := clampTo 128 1023 w.room,
           fallback := clampTo 16 2047 w.fallback }
  else none

/-- The judging of R153: the settings with A clamped, or none when a field is refused. -/
def judgeSettings (w : SettingsWrite) : Option Settings := do
  let controlFeed ← index? 8 w.controlFeed
  let replyFeed ← index? 8 w.replyFeed
  let beaconEnabled ← yesNo? w.beaconEnabled
  some { controlFeed := controlFeed, replyFeed := replyFeed, sweepInterval := clampTo 1 255 w.sweepInterval,
         beaconEnabled := beaconEnabled }

/-- The judging of R143: the probe's settings, or none when an argument is refused. -/
def judgeProbe (mode first last trigger : Nat) : Option ProbeSettings := do
  let mode ← probeMode? mode
  let first ← index? 32 first
  let last ← index? 32 last
  let trigger ← trigger? trigger
  if last < first then none else some { mode := mode, first := first, last := last, trigger := trigger }

/-! ### The fields of each entry as replies carry them (R19) -/

def RuleEntry.writeFields (e : RuleEntry) : List Nat :=
  [yesNo e.enabled, e.matchField.code, e.compare.code, e.value, e.joined.toNat, e.source.val, yesNo e.strip,
    yesNo e.take, e.watchMode.code, e.watchLimit]

def RuleEntry.readFields (e : RuleEntry) : List Nat := e.writeFields ++ [e.watchState.code, e.watchCount]

def Lane.writeFields (l : Lane) : List Nat :=
  [sourceCode l.primary, sourceCode l.backup, l.drain.val, l.target, l.window, yesNo l.invertLeft,
    yesNo l.invertRight, yesNo l.autoReturn]

/-- The seventeen fields of a LANE read, the regulator's record among them (R96, R120). -/
def Lane.readFields (l : Lane) (r : Regulator) : List Nat :=
  l.writeFields ++ [l.state.code, l.active.code, l.fifo.length, l.mendTally, l.overrunTally, r.drops, r.repeats,
    l.starveTally, r.snapshot]

def SlotEntry.writeFields (e : SlotEntry) : List Nat :=
  [yesNo e.armed, laneCode e.laneA, laneCode e.laneB, e.channelMap.code, yesNo e.halve, yesNo e.mute, e.policy.code]

/-- The nine fields of a STREAM read (R71). -/
def streamFields (e : Option StreamEntry) (count index : Nat) : List Nat :=
  match e with
  | none => [0, count, 0, 0, 0, 0, 0, 0, index]
  | some x => [1, count, x.source.code, x.age, yesNo x.seen, x.phase, x.packets, x.mends, index]

def Path.writeFields (x : Path) : List Nat := [x.requested.code, x.fn, x.fd, x.quiet, x.room, x.fallback]

/-- Mode-pending: the requested mode is not the mode in force (02, section 2.1; R37; DEDUCED, assumption 15). -/
def Path.modePending (x : Path) : Bool := x.requested != x.inForce

/-- The thirteen fields of a PATH read (R22, R112). -/
def Path.readFields (x : Path) (port : Port) (c : Carriage) : List Nat :=
  x.writeFields ++ [port.measuredL.getD 0, x.timing.code, yesNo x.resumePending, yesNo x.modePending, c.phase, c.owed,
    c.shortfall]

/-- The current lane of the probe while it is not STOPPED (09, section 9.1). -/
def ProbeRun.lane? (r : ProbeRun) : Option LaneId :=
  match r with
  | .stopped => none
  | .awaitTick l => some l
  | .awaitFrame l => some l
  | .measuring l _ _ => some l

/-- The eight fields of a PROBE read (R142). -/
def probeFields (r : ProbeResult) (run : ProbeRun) : List Nat :=
  [r.peakLeft, r.peakRight, r.overLeft, r.overRight, yesNo r.complete, r.pass, yesNo run.lane?.isSome,
    laneCode run.lane?]

def Settings.writeFields (x : Settings) : List Nat :=
  [x.controlFeed.val, x.replyFeed.val, x.sweepInterval, yesNo x.beaconEnabled]

end Sys2Proof.Machine
end

