-- ==== Sys2Proof/Machine/State.lean ====
section
/-! DEFINITION. The state of the SL-832 as plain data, the reasons a step can stop, and the state after power-on
reset. -/

namespace Sys2Proof.Machine

/-- Everything the spec gives the part, block by block, and the model's own `pending`, `now` and `freeCount`. -/
structure State where
  /-- The commands that wait, first in, first out (the model's own). -/
  pending : List Instr
  /-- The instant reached, in nanoseconds (the model's own; DESIGN CHOICE, assumption 1). -/
  now : Nat
  /-- How many times a free order has been drawn (the model's own; DESIGN CHOICE, assumption 7). -/
  freeCount : Nat
  /-- The receive state of each input port (R2). -/
  ports : Vector Port 8
  /-- The rule table of each input (03, section 3.1). -/
  rules : Vector (Vector RuleEntry 16) 8
  /-- The entries of the stream table; a free entry is `none` (R60). -/
  streams : Vector (Option StreamEntry) 48
  /-- The table count (R60). -/
  tableCount : Nat
  /-- The sweep counter (R65). -/
  sweepCounter : Nat
  /-- Whether a tick has brought the sweep counter to A and its sweep is still to be made (the model's own; R65; DESIGN
  CHOICE, assumption 9). -/
  sweepReached : Bool
  /-- The lanes (05, sections 5.1 and 5.2). -/
  lanes : Vector Lane 32
  /-- The fill regulator's records (07, section 7.1). -/
  regulators : Vector Regulator 32
  /-- The carriage state of each feed (06, section 6.1). -/
  carriage : Vector Carriage 8
  /-- The route maps and slot positions of each feed (08, section 8.1). -/
  routes : Vector Route 8
  /-- The path records (02, section 2.1). -/
  paths : Vector Path 8
  /-- The generated frame in progress on each path (R33). -/
  rasters : Vector (Option GenFrame) 8
  /-- What each output port is doing (R5, R33). -/
  outputs : Vector Output 8
  /-- The words of the line that ended last on each output port, as it wrote them (R5). -/
  written : Vector (List FeedWord) 8
  /-- The tick generator (R38). -/
  tick : TickGen
  /-- The level probe (09, section 9.1). -/
  probe : Probe
  /-- The device address (R160). -/
  deviceAddress : Fin 15
  /-- The SETTINGS entry (R153). -/
  settings : Settings
  /-- The command queue, head first (R149). -/
  commandQueue : List Command
  /-- The reply queue, head first (R151). -/
  replyQueue : List Reply
  /-- The beacon-pending flag (R159). -/
  beaconPending : Bool
  /-- The notice table, in the order of R155. -/
  notices : Vector NoticeRecord 453
  deriving DecidableEq, Repr

/-- The faults of the part: none. The spec describes every exceptional condition as a change of state, a notice or an
outcome code, so no meaning raises a fault. -/
inductive Fault where
  deriving DecidableEq, Repr

/-- Why a command is refused. -/
inductive Refusal where
  /-- Raised by `exec` alone, for a command that has no meaning yet; safe. No arm of `exec` raises it now. -/
  | notModelled (mnemonic : String)
  deriving DecidableEq, Repr

/-- The part right after power-on reset at instant 0 with every strap low (R160 and the reset rules of each chapter).
The straps' values are zeros (DESIGN CHOICE, assumption 4); `POWER_ON_RESET` gives the others. -/
def State.reset : State :=
  { pending := []
    now := 0
    freeCount := 0
    ports := Vector.replicate 8 portReset
    rules := Vector.replicate 8 (Vector.ofFn ruleReset)
    streams := Vector.replicate 48 none
    tableCount := 0
    sweepCounter := 0
    sweepReached := false
    lanes := Vector.replicate 32 laneReset
    regulators := Vector.replicate 32 regulatorReset
    carriage := Vector.replicate 8 carriageReset
    routes := Vector.replicate 8 routeReset
    paths := Vector.replicate 8 pathReset
    rasters := Vector.replicate 8 none
    outputs := Vector.replicate 8 .dark
    written := Vector.replicate 8 []
    tick := tickReset 0
    probe := probeReset
    deviceAddress := addressOfStraps 0
    settings := settingsReset 0
    commandQueue := []
    replyQueue := []
    beaconPending := false
    notices := Vector.replicate 453 noticeReset }

end Sys2Proof.Machine
end

