-- ==== Sys2Proof/Machine/Ops.lean ====
section
/-! DEFINITION. The named operations over State: one write for each record of each block, the passing of time, and the
returns to reset values. Other files change State through these. -/

namespace Sys2Proof.Machine

/-! ### Writing one record -/

def State.setPort (p : Feed) (x : Port) (s : State) : State := { s with ports := s.ports.set p x }

def State.setRule (p : Feed) (e : RuleIndex) (x : RuleEntry) (s : State) : State :=
  { s with rules := s.rules.set p (s.rules[p].set e x) }

def State.setStream (i : Fin 48) (x : Option StreamEntry) (s : State) : State := { s with streams := s.streams.set i x }

def State.setLane (l : LaneId) (x : Lane) (s : State) : State := { s with lanes := s.lanes.set l x }

def State.setRegulator (l : LaneId) (x : Regulator) (s : State) : State :=
  { s with regulators := s.regulators.set l x }

def State.setCarriage (p : Feed) (x : Carriage) (s : State) : State := { s with carriage := s.carriage.set p x }

def State.setRoute (p : Feed) (x : Route) (s : State) : State := { s with routes := s.routes.set p x }

def State.setPath (p : Feed) (x : Path) (s : State) : State := { s with paths := s.paths.set p x }

def State.setRaster (p : Feed) (x : Option GenFrame) (s : State) : State := { s with rasters := s.rasters.set p x }

def State.setOutput (p : Feed) (x : Output) (s : State) : State := { s with outputs := s.outputs.set p x }

def State.setWritten (p : Feed) (x : List FeedWord) (s : State) : State := { s with written := s.written.set p x }

def State.setTick (x : TickGen) (s : State) : State := { s with tick := x }

def State.setProbe (x : Probe) (s : State) : State := { s with probe := x }

def State.setNotice (i : Fin 453) (x : NoticeRecord) (s : State) : State := { s with notices := s.notices.set i x }

/-! ### Time (DESIGN CHOICE, assumption 1) -/

/-- The time of the loss timer, 1 ms (R23). -/
def lossTime : Nat := 1000000

/-- The time of the absence timer, 100 ms (R38). -/
def absenceTime : Nat := 100000000

/-- The tick period while no period has been measured, 40 ms (R38). -/
def defaultPeriod : Nat := 40000000

/-- `dt` nanoseconds pass. -/
def State.elapse (dt : Nat) (s : State) : State := { s with now := s.now + dt }

/-- Whether a timer that runs for `span` has expired at `now`: it is running and its span has passed. -/
def timerDue (restarted : Option Nat) (span now : Nat) : Bool :=
  match restarted with
  | none => false
  | some t => t + span ≤ now

/-- P, the tick period: the measured period, or 40 ms (R32, R38). -/
def TickGen.tickPeriod (t : TickGen) : Nat := t.period.getD defaultPeriod

/-! ### Folding an operation over the members of a block -/

/-- An operation done for every index in turn. -/
def forEach {n : Nat} (f : Fin n → State → State) (s : State) : State :=
  (List.finRange n).foldl (fun t i => f i t) s

/-- An operation done for each member of a list in turn. -/
def forList {α : Type} (f : α → State → State) (l : List α) (s : State) : State := l.foldl (fun t x => f x t) s

/-! ### Resets (R160, R161) -/

/-- Every block at the values that power-on reset and RESTART share; the device address and the SETTINGS entry are
kept, both queues are emptied, and the model's own fields and the words that the outputs have written go on. -/
def State.resetBlocks (s : State) : State :=
  { State.reset with
    pending := s.pending
    now := s.now
    freeCount := s.freeCount
    written := s.written
    tick := tickReset s.now
    deviceAddress := s.deviceAddress
    settings := s.settings }

end Sys2Proof.Machine
end

