-- ==== Sys2Proof/Machine/Flags.lean ====
section
/-! DEFINITION. Tallies, and the notice table: its order, the raising of a notice, the conditions that persist, and what
READ-STATUS and the beacon report of it (R155 to R159). -/

namespace Sys2Proof.Machine

/-! ### Tallies (00_scope.md, Tally) -/

/-- A tally that rises by `n` and holds at 65535. -/
def tally (n v : Nat) : Nat := min 65535 (v + n)

/-! ### The order of the notice table (R155) -/

/-- The number of a notice's kind (R155). -/
def Notice.kind : Notice → Nat
  | .inputLost _ => 1
  | .inputReturned _ => 2
  | .rasterChange _ => 3
  | .houseLost => 4
  | .houseReturned => 5
  | .watchExpired _ _ => 6
  | .tallyReached _ _ => 7
  | .streamTableFull => 8
  | .laneFailover _ => 9
  | .laneStarved _ => 10
  | .laneOverrun _ => 11
  | .slotCollision _ _ => 12
  | .carriageShortfall _ => 13
  | .commandOverrun => 14
  | .probeDone => 15

/-- A notice's subject as fields carry it (R18). -/
def Notice.subject : Notice → Nat
  | .inputLost f => f.val
  | .inputReturned f => f.val
  | .rasterChange f => f.val
  | .houseLost => 0
  | .houseReturned => 0
  | .watchExpired f e => 16 * f.val + e.val
  | .tallyReached f e => 16 * f.val + e.val
  | .streamTableFull => 0
  | .laneFailover l => l.val
  | .laneStarved l => l.val
  | .laneOverrun l => l.val
  | .slotCollision f s => 8 * f.val + s.val
  | .carriageShortfall f => f.val
  | .commandOverrun => 0
  | .probeDone => 0

/-- The cursor value of a record (R155). -/
def Notice.cursor (n : Notice) : Nat := 256 * n.kind + n.subject

/-- The place of a record in the table, in the order of kinds and subjects (R155). -/
def Notice.index : Notice → Fin 453
  | .inputLost f => ⟨f.val, by omega⟩
  | .inputReturned f => ⟨8 + f.val, by omega⟩
  | .rasterChange f => ⟨16 + f.val, by omega⟩
  | .houseLost => ⟨24, by omega⟩
  | .houseReturned => ⟨25, by omega⟩
  | .watchExpired f e => ⟨26 + 16 * f.val + e.val, by omega⟩
  | .tallyReached f e => ⟨154 + 16 * f.val + e.val, by omega⟩
  | .streamTableFull => ⟨282, by omega⟩
  | .laneFailover l => ⟨283 + l.val, by omega⟩
  | .laneStarved l => ⟨315 + l.val, by omega⟩
  | .laneOverrun l => ⟨347 + l.val, by omega⟩
  | .slotCollision f s => ⟨379 + 8 * f.val + s.val, by omega⟩
  | .carriageShortfall f => ⟨443 + f.val, by omega⟩
  | .commandOverrun => ⟨451, by omega⟩
  | .probeDone => ⟨452, by omega⟩

/-- Every pair of two kinds of index, the first counting slower. -/
def pairs (m n : Nat) : List (Fin m × Fin n) := (List.finRange m).flatMap fun a => (List.finRange n).map fun b => (a, b)

/-- Every record of the table, in order (R155). -/
def Notice.all : List Notice :=
  List.flatten
    [(List.finRange 8).map Notice.inputLost, (List.finRange 8).map Notice.inputReturned,
      (List.finRange 8).map Notice.rasterChange, [Notice.houseLost, Notice.houseReturned],
      (pairs 8 16).map fun x => Notice.watchExpired x.1 x.2, (pairs 8 16).map fun x => Notice.tallyReached x.1 x.2,
      [Notice.streamTableFull], (List.finRange 32).map Notice.laneFailover, (List.finRange 32).map Notice.laneStarved,
      (List.finRange 32).map Notice.laneOverrun, (pairs 8 8).map fun x => Notice.slotCollision x.1 x.2,
      (List.finRange 8).map Notice.carriageShortfall, [Notice.commandOverrun, Notice.probeDone]]

/-- The record that a kind and a subject name, if there is one (R157). -/
def Notice.named? (kind subject : Nat) : Option Notice :=
  Notice.all.find? fun n => n.kind == kind && n.subject == subject

/-! ### Records -/

/-- The record of a notice. -/
def State.notice (s : State) (n : Notice) : NoticeRecord := s.notices[n.index]

/-- A record raised once more (R156). -/
def NoticeRecord.raise (r : NoticeRecord) : NoticeRecord := { raised := true, generation := (r.generation + 1) % 256 }

/-- A block raises a notice (R156). -/
def State.raise (n : Notice) (s : State) : State := s.setNotice n.index (s.notice n).raise

/-- Whether the condition of a notice persists (R155). -/
def State.persists (s : State) : Notice → Bool
  | .inputLost f => s.paths[f].timing == .lost
  | .houseLost => s.tick.reference == .absent
  | .slotCollision f x => s.routes[f].seenLast[x]
  | .inputReturned _ => false
  | .rasterChange _ => false
  | .houseReturned => false
  | .watchExpired _ _ => false
  | .tallyReached _ _ => false
  | .streamTableFull => false
  | .laneFailover _ => false
  | .laneStarved _ => false
  | .laneOverrun _ => false
  | .carriageShortfall _ => false
  | .commandOverrun => false
  | .probeDone => false

/-- The raised records, in order. -/
def State.raisedNotices (s : State) : List Notice := Notice.all.filter fun n => (s.notice n).raised

/-- The beacon's summary: 2 to the power (kind − 1) for each kind with a raised record (R16). -/
def State.noticeSummary (s : State) : Nat :=
  ((List.range 15).map fun k => if s.raisedNotices.any (fun n => n.kind == k + 1) then 2 ^ k else 0).sum

/-- The results of READ-STATUS from a cursor onward: more, next cursor, count, and the triples (R158). -/
def State.statusFields (s : State) (cursor : Nat) : List Nat :=
  let found := s.raisedNotices.filter fun n => cursor ≤ n.cursor
  let shown := found.take 16
  let next := (found.drop 16).head?
  [yesNo next.isSome, (next.map Notice.cursor).getD 0, shown.length] ++
    shown.flatMap fun n => [n.kind, n.subject, (s.notice n).generation]

end Sys2Proof.Machine
end

