-- ==== Sys2Proof/Machine/Probe.lean ====
section
/-! DEFINITION. The level probe (chapter 9): its windows, what it measures, and its run. -/

namespace Sys2Proof.Machine

/-- The magnitude of a sample (09, section 9.1). -/
def magnitude (v : Int) : Nat := min 8388607 v.natAbs

/-- Whether a sample stands at full scale (09, section 9.1). -/
def fullScale (v : Int) : Bool := v == 8388607 || v == -8388608

/-- The working record when a window opens on a lane (R145). -/
def openWork (running : Bool) : ProbeWork :=
  { peakLeft := 0, peakRight := 0, overLeft := 0, overRight := 0, running := running }

/-- One yielded set measured (R146). -/
def ProbeWork.measure (w : ProbeWork) (x : SampleSet) : ProbeWork :=
  { w with
    peakLeft := max w.peakLeft (magnitude x.left)
    peakRight := max w.peakRight (magnitude x.right)
    overLeft := if fullScale x.left then min 255 (w.overLeft + 1) else w.overLeft
    overRight := if fullScale x.right then min 255 (w.overRight + 1) else w.overRight }

/-- The sets that lane `l` yields on a line of feed `p` go to the probe (R146). -/
def State.probeMeasure (p : Feed) (l : LaneId) (sets : List SampleSet) (s : State) : State :=
  match s.probe.run with
  | .measuring lane feed work =>
    if lane = l ∧ feed = p then
      s.setProbe { s.probe with run := .measuring lane feed (sets.foldl ProbeWork.measure work) }
    else s
  | _ => s

/-- Lane `l` leaves RUNNING: the running flag of its open window becomes no (R146). -/
def State.probeLeft (l : LaneId) (s : State) : State :=
  match s.probe.run with
  | .measuring lane feed work =>
    if lane = l then s.setProbe { s.probe with run := .measuring lane feed { work with running := false } } else s
  | _ => s

/-- A tick moves a probe in AWAIT-TICK to AWAIT-FRAME (R144). -/
def State.probeTick (s : State) : State :=
  match s.probe.run with
  | .awaitTick lane => s.setProbe { s.probe with run := .awaitFrame lane }
  | _ => s

/-- A frame start of feed `f` opens the window of a waiting probe when the current lane drains to `f` (R145). -/
def State.probeOpen (f : Feed) (s : State) : State :=
  match s.probe.run with
  | .awaitFrame lane =>
    if s.lanes[lane].drain = f then
      s.setProbe { s.probe with run := .measuring lane f (openWork (s.lanes[lane].state == .running)) }
    else s
  | _ => s

/-- The result record of a closed window (R145). -/
def closeResult (w : ProbeWork) (r : ProbeResult) : ProbeResult :=
  { peakLeft := w.peakLeft, peakRight := w.peakRight, overLeft := w.overLeft, overRight := w.overRight,
    complete := w.running, pass := (r.pass + 1) % 256 }

/-- The lane behind a lane in a sweep. -/
def nextLane (l : LaneId) : LaneId := Fin.ofNat 32 (l.val + 1)

/-- The run after a window of `lane` has closed (R145, table). -/
def ProbeSettings.advance (x : ProbeSettings) (lane : LaneId) : ProbeRun :=
  match x.mode with
  | .single => .stopped
  | .repeating => .awaitFrame lane
  | .sweep => if lane < x.last then .awaitFrame (nextLane lane) else .stopped
  | .repeatSweep => if lane < x.last then .awaitFrame (nextLane lane) else .awaitFrame x.first

/-- A window of `lane` closes: its result is stored and the run advances; a run that stops raises PROBE-DONE (R145,
R147). -/
def State.probeClose (lane : LaneId) (work : ProbeWork) (s : State) : State :=
  let run := s.probe.settings.advance lane
  let s1 := s.setProbe { s.probe with
    run := run
    results := s.probe.results.set lane (closeResult work s.probe.results[lane]) }
  if run = .stopped then s1.raise .probeDone else s1

/-- A feed frame start of feed `f` reaches the probe (R145). -/
def State.probeFrameStart (f : Feed) (s : State) : State :=
  match s.probe.run with
  | .measuring lane feed work => if feed = f then (s.probeClose lane work).probeOpen f else s
  | _ => s.probeOpen f

end Sys2Proof.Machine
end

