-- ==== Sys2Proof/Machine/LaneStore.lean ====
section
/-! DEFINITION. The lane store (chapter 5): arrival, pops, emptying, and the failover and return checks. What the checks
ask of the stream table, whether a stream has a valid entry (R70), stands here too. -/

namespace Sys2Proof.Machine

/-! ### The stream table's answers (R70) -/

/-- The index of the valid entry of a stream, if there is one. -/
def State.findStream (x : Source) (s : State) : Option (Fin 48) :=
  (List.finRange 48).find? fun i => s.streams[i].map StreamEntry.source == some x

/-- Whether a stream has a valid entry (R70). -/
def State.hasStream (x : Source) (s : State) : Bool := (s.findStream x).isSome

/-- Whether a source is present and its stream has a valid entry. -/
def State.hasSource (x : Option Source) (s : State) : Bool :=
  match x with
  | none => false
  | some y => s.hasStream y

/-! ### One lane -/

/-- The active stream of a lane (05, section 5.1). -/
def Lane.activeStream (x : Lane) : Option Source :=
  match x.active with
  | .primary => x.primary
  | .backup => x.backup

/-- A lane emptied under R77, with the active source and state that the emptying event sets. -/
def Lane.emptied (x : Lane) (active : Active) (state : LaneState) : Lane :=
  { x with active := active, state := state, fifo := [], holdLeft := 0, holdRight := 0, lastOut := zeroSet }

/-- A sample negated, saturated into the sample range (00_scope.md, Samples). -/
def negateSample (v : Int) : Int := if v = -8388608 then 8388607 else -v

/-- The stored value of an arriving sample: its own, negated under inversion, or the hold value (R81). -/
def storedValue (invert : Bool) (hold : Int) (c : CheckedSample) : Int :=
  if c.passes then (if invert then negateSample c.value else c.value) else hold

/-- An arriving set treated and appended to a lane with room, and the priming threshold tested (R79, R81, R82). -/
def Lane.append (x : Lane) (c : CheckedSet) : Lane :=
  let left := storedValue x.invertLeft x.holdLeft c.left
  let right := storedValue x.invertRight x.holdRight c.right
  let fifo := x.fifo ++ [{ left := left, right := right }]
  { x with
    fifo := fifo
    holdLeft := left
    holdRight := right
    mendTally := tally (failingSamples [c]) x.mendTally
    state := if (x.state = .priming ∨ x.state = .starved) ∧ x.target ≤ fifo.length then .running else x.state }

/-- One pop of a lane: the lane after it and the set it yields (R85, R86). -/
def Lane.pop (x : Lane) : Lane × SampleSet :=
  match x.state with
  | .running =>
    match x.fifo with
    | y :: rest => ({ x with fifo := rest, lastOut := y }, y)
    | [] => ({ x with starveTally := tally 1 x.starveTally, state := .starved }, zeroSet)
  | .idle => (x, zeroSet)
  | .priming => (x, zeroSet)
  | .starved => (x, zeroSet)

/-- `k` pops in succession, and the sets they yield in order (R84). -/
def Lane.popTimes : Nat → Lane → Lane × List SampleSet
  | 0, x => (x, [])
  | k + 1, x =>
    let (x1, y) := x.pop
    let (x2, ys) := x1.popTimes k
    (x2, y :: ys)

/-- Whether `k` pops starve a lane: it is RUNNING and holds fewer than `k` sets (R85). -/
def Lane.starves (k : Nat) (x : Lane) : Bool := x.state == .running && x.fifo.length < k

/-- A drop (R87). -/
def Lane.drop (x : Lane) : Lane := { x with fifo := x.fifo.tail }

/-- A repeat (R87). -/
def Lane.repeatLast (x : Lane) : Lane := { x with fifo := x.lastOut :: x.fifo }

/-! ### The lane store's operations on State -/

/-- A lane is emptied by an event that sets its active source and state; a window open on it becomes incomplete (R77,
R146). -/
def State.emptyLane (l : LaneId) (active : Active) (state : LaneState) (s : State) : State :=
  (s.setLane l (s.lanes[l].emptied active state)).probeLeft l

/-- One set of a taken packet of stream `x` reaches lane `l` (R80, R82). -/
def State.storeSet (x : Source) (l : LaneId) (c : CheckedSet) (s : State) : State :=
  let lane := s.lanes[l]
  if lane.activeStream = some x then
    if lane.fifo.length < 2048 then s.setLane l (lane.append c)
    else (s.setLane l { lane with overrunTally := tally 1 lane.overrunTally }).raise (.laneOverrun l)
  else s

/-- Sets of a taken packet of stream `x` reach lane `l`, in order, each matched on its own (R80). -/
def State.storeSets (x : Source) (l : LaneId) (sets : List CheckedSet) (s : State) : State :=
  forList (fun c t => t.storeSet x l c) sets s

/-- The conditions of the failover check (R88). -/
def State.failsOver (l : LaneId) (s : State) : Bool :=
  let x := s.lanes[l]
  x.active == .primary && x.primary.isSome && !s.hasSource x.primary && s.hasSource x.backup

/-- The failover check of a lane (R88). -/
def State.failoverCheck (l : LaneId) (s : State) : State :=
  if s.failsOver l then (s.emptyLane l .backup .priming).raise (.laneFailover l) else s

/-- The conditions of the return check (R90). -/
def State.returns (l : LaneId) (s : State) : Bool :=
  let x := s.lanes[l]
  x.active == .backup && s.hasSource x.primary && (x.autoReturn || !s.hasSource x.backup)

/-- The return check of a lane (R90). -/
def State.returnCheck (l : LaneId) (s : State) : State :=
  if s.returns l then s.emptyLane l .primary .priming else s

/-- The stream table hands the removal of a stream (R89). -/
def State.onRemoval (x : Source) (s : State) : State :=
  forEach (fun l t => if t.lanes[l].primary = some x then t.failoverCheck l else t) s

/-- The stream table hands the addition of a stream (R91). -/
def State.onAddition (x : Source) (s : State) : State :=
  forEach (fun l t => if t.lanes[l].primary = some x then t.returnCheck l else t) s

/-- The stream table hands a sweep completion (R89, R91). -/
def State.onSweepDone (s : State) : State := forEach (fun l t => (t.failoverCheck l).returnCheck l) s

/-- Lane `l` is popped `k` times on a line of feed `p`; a pop that finds it empty starves it; the probe sees the sets
(R84 to R86, R146). -/
def State.popLane (p : Feed) (k : Nat) (l : LaneId) (s : State) : State :=
  let lane := s.lanes[l]
  if lane.drain = p then
    let s1 := (s.setLane l (lane.popTimes k).1).probeMeasure p l (lane.popTimes k).2
    if lane.starves k then (s1.raise (.laneStarved l)).probeLeft l else s1
  else s

/-- Every lane draining to feed `p` is popped `k` times (R84, R108). -/
def State.popFeed (p : Feed) (k : Nat) (s : State) : State := forEach (fun l t => t.popLane p k l) s

/-- The sets that lane `l` yields on a line of set count `k`. -/
def State.yields (s : State) (k : Nat) (l : LaneId) : List SampleSet := (s.lanes[l].popTimes k).2

end Sys2Proof.Machine
end

