-- ==== Sys2Proof/Machine/Carriage.lean ====
section
/-! DEFINITION. The carriage unit (chapter 6) and the fill regulator (chapter 7). -/

namespace Sys2Proof.Machine

/-! ### The frame start (R100 to R104, R109, R110) -/

/-- Owed with the undistributed remainder of the frame that ends (R109). -/
def Carriage.closedOwed (c : Carriage) : Nat := c.owed + (c.frameCount - c.given)

/-- The cadence phase of the frame that begins (R102). -/
def Carriage.nextPhase (c : Carriage) (fn fd : Nat) : Nat :=
  if c.fresh then 0 else if cadenceLength fn fd ≤ c.phase + 1 then 0 else c.phase + 1

/-- L′ from the frame line count and Q (R104). -/
def sharedLines (lines quiet : Nat) : Nat := max (min lines 2047 - quiet) 1

/-- The carriage state of a feed through a frame start, with the frame line count handed to it (R100). -/
def Carriage.frameStart (c : Carriage) (fn fd quiet lines : Nat) : Carriage :=
  let sum := c.accumulator + setsPerCadence fd
  { accumulator := sum % fn
    phase := c.nextPhase fn fd
    fresh := false
    frameCount := sum / fn
    frameLines := sharedLines lines quiet
    frameQuiet := quiet
    linePosition := 0
    given := 0
    owed := min 8 c.closedOwed
    shortfall := tally (c.closedOwed - 8) c.shortfall }

/-- A feed frame start reaches the carriage unit; an excess above 8 raises CARRIAGE-SHORTFALL (R100, R110). -/
def State.carriageFrameStart (p : Feed) (lines : Nat) (s : State) : State :=
  let c := s.carriage[p]
  let x := s.paths[p]
  let s1 := s.setCarriage p (c.frameStart x.fn x.fd x.quiet lines)
  if 8 < c.closedOwed then s1.raise (.carriageShortfall p) else s1

/-- A rate change: the cadence begins afresh at the next frame start (R103). -/
def Carriage.rateChange (c : Carriage) : Carriage := { c with accumulator := 0, fresh := true }

/-! ### The set count of a line (R105 to R108) -/

/-- The due of carriage line `j` (R105). -/
def dueOf (count lines j : Nat) : Nat :=
  if j < lines then (j + 1) * count / lines - j * count / lines else 0

/-- The due of the next carriage line of the frame in progress. -/
def Carriage.due (c : Carriage) : Nat := dueOf c.frameCount c.frameLines c.linePosition

/-- The largest set count that `room` words allow `n` slots (R107). -/
def roomCount (room n : Nat) : Nat := room / (6 * n) - 1

/-- The set count of a line: at most 4 and at most owed, reduced for room when there is a room and a slot armed (R106,
R107). -/
def setCount (owed : Nat) (room : Option Nat) (n : Nat) : Nat :=
  match room with
  | none => min 4 owed
  | some r => if n = 0 then min 4 owed else min (min 4 owed) (roomCount r n)

/-- The set count that the carriage unit answers to a request (R106). -/
def Carriage.answer (c : Carriage) (room : Option Nat) (n : Nat) : Nat := setCount (c.owed + c.due) room n

/-- The carriage state after a request answered with `k` (R106). -/
def Carriage.requested (c : Carriage) (k : Nat) : Carriage :=
  { c with
    given := c.given + c.due
    owed := c.owed + c.due - k
    linePosition := c.linePosition + 1 }

/-- A carriage request answered with `k`: the counters move and every draining lane is popped `k` times (R106, R108). -/
def State.carriageRequest (p : Feed) (k : Nat) (s : State) : State :=
  (s.popFeed p k).setCarriage p (s.carriage[p].requested k)

/-! ### Fill regulation (R114 to R116) -/

/-- The order the window test gives (R115): a drop, a repeat or nothing. -/
inductive Correction where
  | drop
  | repeatLast
  | leave
  deriving DecidableEq, Repr

/-- The window test of a lane (R114, R115): only a RUNNING lane is tested. -/
def Lane.correction (x : Lane) : Correction :=
  if x.state = .running then
    if x.target + x.window < x.fifo.length then .drop
    else if x.fifo.length + x.window < x.target then .repeatLast
    else .leave
  else .leave

/-- A lane with an order carried out (R87). -/
def Lane.corrected (x : Lane) : Lane :=
  match x.correction with
  | .drop => x.drop
  | .repeatLast => x.repeatLast
  | .leave => x

/-- The regulator's record after a frame start (R114, R116). -/
def Regulator.captured (r : Regulator) (x : Lane) : Regulator :=
  match x.correction with
  | .drop => { r with snapshot := x.fifo.length, drops := tally 1 r.drops }
  | .repeatLast => { r with snapshot := x.fifo.length, repeats := tally 1 r.repeats }
  | .leave => { r with snapshot := x.fifo.length }

/-- The regulator acts on lane `l` at a frame start of feed `p` (R114). -/
def State.regulateLane (p : Feed) (l : LaneId) (s : State) : State :=
  let x := s.lanes[l]
  if x.drain = p then (s.setRegulator l (s.regulators[l].captured x)).setLane l x.corrected else s

/-- The regulator acts at a frame start of feed `p` (R114). -/
def State.regulate (p : Feed) (s : State) : State := forEach (fun l t => t.regulateLane p l) s

end Sys2Proof.Machine
end

