-- ==== Sys2Proof/Machine/Routes.lean ====
section
/-! DEFINITION. Route maps (chapter 8): swaps, copies, the collision flags and the slot arithmetic. -/

namespace Sys2Proof.Machine

/-! ### Maps and flags -/

/-- The shadow map replaces the live map whole and the pending flag is cleared (R127). -/
def Route.swapped (r : Route) : Route := { r with live := r.shadow, swapPending := false }

/-- The live map replaces the shadow map whole (R125). -/
def Route.copied (r : Route) : Route := { r with shadow := r.live }

/-- The collision flags shift at a frame start (R138). -/
def Route.shifted (r : Route) : Route := { r with seenLast := r.seenThis, seenThis := Vector.replicate 8 false }

/-- Both flags of every slot become no at an entry into LOST (R138). -/
def Route.flagsCleared (r : Route) : Route :=
  { r with seenLast := Vector.replicate 8 false, seenThis := Vector.replicate 8 false }

/-- A live entry disarmed by a YIELD collision (R136). -/
def Route.disarm (r : Route) (x : Slot) : Route := { r with live := r.live.set x { r.live[x] with armed := false } }

/-- A passed carriage packet of slot `x` has been handed to the assembler (R138). -/
def Route.seen (r : Route) (x : Slot) : Route := { r with seenThis := r.seenThis.set x true }

/-- The slots whose live entries are armed, in slot order (R135). -/
def Route.armedSlots (r : Route) : List Slot := (List.finRange 8).filter fun x => r.live[x].armed

/-- A feed frame start reaches the line assembler: a pending swap is taken and the flags shift (R127, R138). -/
def State.routeFrameStart (p : Feed) (s : State) : State :=
  let r := s.routes[p]
  s.setRoute p (if r.swapPending then r.swapped else r).shifted

/-- Whether a slot entry names a lane (R74). -/
def SlotEntry.names (e : SlotEntry) (l : LaneId) : Bool := e.laneA == some l || e.laneB == some l

/-- Whether a route entry of a feed, live or shadow, names a lane (R74). -/
def Route.names (r : Route) (l : LaneId) : Bool :=
  r.live.toList.any (fun e => e.names l) || r.shadow.toList.any fun e => e.names l

/-! ### Slot arithmetic (R128, R129) -/

/-- A value saturated into the sample range. -/
def saturate (v : Int) : Int := max (-8388608) (min 8388607 v)

/-- Whether a value lies outside the sample range. -/
def clips (v : Int) : Bool := v < -8388608 || 8388607 < v

/-- A set arranged by a channel map; quotients are rounded down (R128). -/
def ChannelMap.arrange (m : ChannelMap) (x : SampleSet) : SampleSet :=
  match m with
  | .straight => x
  | .swap => { left := x.right, right := x.left }
  | .leftBoth => { left := x.left, right := x.left }
  | .rightBoth => { left := x.right, right := x.right }
  | .monoSum => { left := (x.left + x.right).fdiv 2, right := (x.left + x.right).fdiv 2 }

/-- A value halved, rounded down, when the entry halves (R129). -/
def halveIf (halve : Bool) (v : Int) : Int := if halve then v.fdiv 2 else v

/-- What one lane contributes to one channel of a slot: its arranged and halved value, or nothing when absent. -/
def SlotEntry.part (e : SlotEntry) (x : Option SampleSet) : Option SampleSet :=
  x.map fun y =>
    let z := e.channelMap.arrange y
    { left := halveIf e.halve z.left, right := halveIf e.halve z.right }

/-- The exact sum of what the lanes contribute to a channel (R129, Combine). -/
def combine (a b : Option Int) : Int := a.getD 0 + b.getD 0

/-- The exact values of one set position of a slot, before saturation and mute (R128, R129). -/
def SlotEntry.exact (e : SlotEntry) (a b : Option SampleSet) : SampleSet :=
  { left := combine ((e.part a).map SampleSet.left) ((e.part b).map SampleSet.left)
    right := combine ((e.part a).map SampleSet.right) ((e.part b).map SampleSet.right) }

/-- The output set of one set position of a slot (R129). -/
def SlotEntry.output (e : SlotEntry) (a b : Option SampleSet) : SampleSet :=
  if e.mute then zeroSet
  else { left := saturate (e.exact a b).left, right := saturate (e.exact a b).right }

/-- How many clips one set position adds to the tally: 0, 1 or 2, counted before the mute (R129). -/
def SlotEntry.clipCount (e : SlotEntry) (a b : Option SampleSet) : Nat :=
  (if clips (e.exact a b).left then 1 else 0) + (if clips (e.exact a b).right then 1 else 0)

/-- The set of one position among the sets a lane has yielded; an absent lane supplies none (R128). -/
def positionSet (yields : LaneId → List SampleSet) (l : Option LaneId) (j : Nat) : Option SampleSet :=
  l.map fun n => (yields n)[j]?.getD zeroSet

/-- The output sets of a slot on a line of set count `k` (R128 to R130). -/
def SlotEntry.outputs (e : SlotEntry) (yields : LaneId → List SampleSet) (k : Nat) : List SampleSet :=
  (List.range k).map fun j => e.output (positionSet yields e.laneA j) (positionSet yields e.laneB j)

/-- The clips of a slot on a line of set count `k` (R129). -/
def SlotEntry.clipsOf (e : SlotEntry) (yields : LaneId → List SampleSet) (k : Nat) : Nat :=
  ((List.range k).map fun j => e.clipCount (positionSet yields e.laneA j) (positionSet yields e.laneB j)).sum

/-- The carriage packets of a line, one for each armed slot in slot order (R130, R135). -/
def Route.carriagePackets (r : Route) (phase k : Nat) (yields : LaneId → List SampleSet) : List Packet :=
  r.armedSlots.map fun x => carriagePacket x phase (r.live[x].outputs yields k)

/-- The clip tallies after a line, for the armed slots (R129). -/
def Route.clipped (r : Route) (k : Nat) (yields : LaneId → List SampleSet) : Route :=
  { r with clips := Vector.ofFn fun x : Slot =>
      if r.live[x].armed then tally (r.live[x].clipsOf yields k) r.clips[x] else r.clips[x] }

end Sys2Proof.Machine
end

