-- ==== Sys2Proof/Config.lean ====
section
/-! DEFINITION. The free values of the model: the choices the spec leaves open, as constants without a body, so that
no proof can see what they are. -/

namespace Sys2Proof

/-- FREE VALUE (DESIGN CHOICE, assumption 5). R62 and R83 leave open how many sets of a packet are stored before an event
that the packet causes in the stream table. For the `n`-th such packet, `setsBeforeEvents n 0` gives how many before the
removal and `setsBeforeEvents n 1` how many more before the addition. -/
opaque Config.setsBeforeEvents : Nat → Nat → Nat

/-- FREE VALUE (DESIGN CHOICE, assumption 6). R39 gives no order among the consumers of one tick. At
the `n`-th tick where the order shows, the `k`-th consumer to act is the one this number picks among those left. -/
opaque Config.tickPick : Nat → Nat → Nat

/-- FREE VALUE (DESIGN CHOICE, assumptions 12 and 28). How many words of its line an output port has written when the line
is cut at an instant (R131), or a house tick ends its frame in the middle of it (R33). -/
opaque Config.wordsWritten : Feed → Nat → Nat

/-- FREE VALUE (DESIGN CHOICE, assumption 13). How many black words an output port has written when a generated line, or a
run of black words, ends at an instant (R32, R33). -/
opaque Config.blackWords : Feed → Nat → Nat

/-- FREE VALUE (DESIGN CHOICE, assumption 27). How many nanoseconds an output port takes to write so many words of a line that
begins at an instant; the reference gives no time of a word (R32). -/
opaque Config.writingTime : Feed → Nat → Nat → Nat

end Sys2Proof
end

