-- ==== Sys2Proof/Machine/StreamTable.lean ====
section
/-! DEFINITION. The stream table (chapter 4): refresh, learning, the sweep and the removals, and what it hands to the
lane store. -/

namespace Sys2Proof.Machine

/-- An entry refreshed by a taken packet (R61). -/
def StreamEntry.refreshed (e : StreamEntry) (phase mends : Nat) : StreamEntry :=
  { e with seen := true, age := 0, phase := phase, packets := tally 1 e.packets, mends := tally mends e.mends }

/-- The entry of a stream just learned (R62). -/
def learnedEntry (x : Source) (phase mends : Nat) : StreamEntry :=
  { source := x, age := 0, seen := true, phase := phase, packets := 1, mends := mends }

/-- The free entry of lowest index (R62). -/
def State.lowestFree (s : State) : Option (Fin 48) := (List.finRange 48).find? fun i => s.streams[i].isNone

/-- The replaceable entry of lowest index, with its stream (R63). -/
def State.lowestReplaceable (s : State) : Option (Fin 48) :=
  (List.finRange 48).find? fun i => s.streams[i].map StreamEntry.age == some 3

/-- The sources of the entries a condition picks, in index order. -/
def State.sourcesWhere (s : State) (pick : StreamEntry → Bool) : List Source :=
  s.streams.toList.filterMap fun e => (e.filter pick).map StreamEntry.source

/-- The entries a condition picks are made free in one step, and the count falls by their number (R66, R68, R69). -/
def State.freeWhere (pick : StreamEntry → Bool) (s : State) : State :=
  { s with
    streams := s.streams.map fun e => e.filter fun x => !pick x
    tableCount := s.tableCount - (s.sourcesWhere pick).length }

/-- A group of removals is handed to the lane store after the table has changed whole (R67, R68, R69, R70). -/
def State.removeWhere (pick : StreamEntry → Bool) (s : State) : State :=
  forList State.onRemoval (s.sourcesWhere pick) (s.freeWhere pick)

/-- What a taken packet of stream `x` makes of the table: its entry is refreshed (R61), or the stream is learned into the
lowest free entry (R62), or it replaces the lowest entry of age 3 (R63), or STREAM-TABLE-FULL is raised (R64). -/
def State.takeStream (x : Source) (phase mends : Nat) (s : State) : State :=
  match s.findStream x with
  | some i => s.setStream i (s.streams[i].map fun e => e.refreshed phase mends)
  | none =>
    match s.lowestFree with
    | some i => { s.setStream i (some (learnedEntry x phase mends)) with tableCount := s.tableCount + 1 }
    | none =>
      match s.lowestReplaceable with
      | some i => s.setStream i (some (learnedEntry x phase mends))
      | none => s.raise .streamTableFull

/-- Whether the table learns the stream of a taken packet, and so hands its addition to the lane store (R62, R63). -/
def State.learns (x : Source) (s : State) : Bool :=
  (s.findStream x).isNone && (s.lowestFree.isSome || s.lowestReplaceable.isSome)

/-- The stream whose removal the table hands to the lane store when a taken packet replaces it (R63). -/
def State.replaced (x : Source) (s : State) : Option Source :=
  if (s.findStream x).isSome ∨ s.lowestFree.isSome then none
  else s.lowestReplaceable.bind fun i => s.streams[i].map StreamEntry.source

/-- A valid entry that stays valid through a sweep (R66, table). -/
def StreamEntry.swept (e : StreamEntry) : StreamEntry :=
  if e.seen then { e with age := 0, seen := false } else { e with age := e.age + 1 }

/-- The entries a sweep removes: unseen and of age 3 (R66). -/
def StreamEntry.sweptAway (e : StreamEntry) : Bool := !e.seen && 3 ≤ e.age

/-- A sweep: every entry is handled in one step, the counter returns to 0, then the removals and the sweep completion
are handed on (R65, R66, R67). -/
def State.sweepTable (s : State) : State :=
  let freed := s.freeWhere StreamEntry.sweptAway
  let aged := { freed with streams := freed.streams.map fun e => e.map StreamEntry.swept, sweepCounter := 0,
                             sweepReached := false }
  (forList State.onRemoval (s.sourcesWhere StreamEntry.sweptAway) aged).onSweepDone

/-- The sweep that a tick has called for is made (R65, R66). -/
def State.settleSweep (s : State) : State := if s.sweepReached then s.sweepTable else s

/-- A house tick reaches the stream table: the counter rises, and the table sweeps when it has reached the A in force at
the tick (R65). -/
def State.tickTable (s : State) : State :=
  { s with sweepCounter := s.sweepCounter + 1
           sweepReached := decide (s.settings.sweepInterval ≤ s.sweepCounter + 1) }.settleSweep

/-- Whether a tick would sweep the table now (R65). -/
def State.sweepDue (s : State) : Bool := s.settings.sweepInterval ≤ s.sweepCounter + 1

/-! ### A taken packet at the table and the lanes (R47, R83) -/

/-- Sets of a taken packet of stream `x` reach every lane (R80). -/
def State.storeAll (x : Source) (sets : List CheckedSet) (s : State) : State :=
  forEach (fun l t => t.storeSets x l sets) s

/-- How many of a packet's `count` sets every lane has been offered before the removal and before the addition that the
packet causes: free values, at most `count`, in that order (R83; DESIGN CHOICE, assumption 5). -/
def State.setsBefore (s : State) (count : Nat) : Nat × Nat :=
  let n := Config.setsBeforeEvents s.freeCount 0 % (count + 1)
  (n, n + Config.setsBeforeEvents s.freeCount 1 % (count - n + 1))

/-- The sets of a packet that the table learns reach the lanes while the table hands its events: the removal of a replaced
stream, then the addition (R62, R63, R70, R83). -/
def State.storeLearned (x : Source) (gone : Option Source) (sets : List CheckedSet) (s : State) : State :=
  let n := s.setsBefore sets.length
  let s1 := { s with freeCount := s.freeCount + 1 }.storeAll x (sets.take n.1)
  let s2 := match gone with
    | none => s1
    | some y => s1.onRemoval y
  let s3 := (s2.storeAll x ((sets.take n.2).drop n.1)).onAddition x
  s3.storeAll x (sets.drop n.2)

/-- A taken packet of stream `x` reaches the table and its sets reach the lanes (R47, R80, R83). -/
def State.takePacket (x : Source) (c : CarriagePayload) (s : State) : State :=
  let s1 := s.takeStream x c.phase (failingSamples c.sets)
  if s.learns x then s1.storeLearned x (s.replaced x) c.sets else s1.storeAll x c.sets

end Sys2Proof.Machine
end

