-- ==== Sys2Proof/Machine/Classifier.lean ====
section
/-! DEFINITION. The classifiers (chapter 3): matching, decisions and watches. -/

namespace Sys2Proof.Machine

/-! ### Decisions (R43 to R45) -/

/-- The header value a rule compares, when the packet has it (R43). -/
def Packet.header (k : Packet) (f : MatchField) : Option Nat :=
  match f with
  | .kind => some k.kind.toNat
  | .span => some k.span
  | .slot => k.slot?.map fun x => x.val

/-- The own comparison of an entry (R44). -/
def RuleEntry.ownComparison (e : RuleEntry) (k : Packet) : Bool :=
  match k.header e.matchField with
  | none => false
  | some v =>
    match e.compare with
    | .equal => v == e.value
    | .unequal => v != e.value

/-- Whether entry `i` of a table holds for a packet (R44). -/
def ruleHolds (table : Vector RuleEntry 16) (k : Packet) (i : RuleIndex) : Bool :=
  table[i].enabled && table[i].ownComparison k &&
    (List.finRange 16).all fun j => !table[i].joined.getLsbD j.val || j == i || table[j].ownComparison k

/-- The decision of a packet: by the first entry that holds, or the default decision (R45). -/
def decide? (table : Vector RuleEntry 16) (k : Packet) : Decision :=
  match (List.finRange 16).find? (ruleHolds table k) with
  | none => { decider := none, action := none, strip := false, take := true }
  | some i =>
    let a := table[i].source
    { decider := some i, action := some a, strip := table[a].strip, take := table[a].take }

/-! ### Watches (R50 to R53) -/

/-- An ABSENCE watch expires: WATCH-EXPIRED is raised (R51). -/
def State.expireWatch (p : Feed) (e : RuleIndex) (s : State) : State :=
  (s.setRule p e { s.rules[p][e] with watchState := .expired }).raise (.watchExpired p e)

/-- A TALLY watch reports: TALLY-REACHED is raised and the count returns to 0 (R53). -/
def State.reportTally (p : Feed) (e : RuleIndex) (s : State) : State :=
  (s.setRule p e { s.rules[p][e] with watchCount := 0 }).raise (.tallyReached p e)

/-- Whether an ABSENCE watch stands at its limit, still ARMED (R51). -/
def RuleEntry.absenceReached (r : RuleEntry) : Bool :=
  r.watchMode == .absence && r.watchState == .armed && r.watchCount == r.watchLimit

/-- Whether a TALLY watch stands at its limit (R53). -/
def RuleEntry.tallyReached (r : RuleEntry) : Bool := r.watchMode == .tally && r.watchCount == r.watchLimit

/-- The watch of entry `e` of input `p` expires if it stands at its limit (R51). -/
def State.settleAbsence (p : Feed) (e : RuleIndex) (s : State) : State :=
  if s.rules[p][e].absenceReached then s.expireWatch p e else s

/-- The watch of entry `e` of input `p` reports if it stands at its limit (R53). -/
def State.settleTally (p : Feed) (e : RuleIndex) (s : State) : State :=
  if s.rules[p][e].tallyReached then s.reportTally p e else s

/-- A house tick reaches one watch (R51). -/
def State.tickWatch (p : Feed) (e : RuleIndex) (s : State) : State :=
  let r := s.rules[p][e]
  if r.watchMode = .absence ∧ r.watchState = .armed then
    (s.setRule p e { r with watchCount := r.watchCount + 1 }).settleAbsence p e
  else s

/-- A house tick reaches every watch (R51). -/
def State.tickWatches (s : State) : State := forEach (fun p t => forEach (fun e u => u.tickWatch p e) t) s

/-- A decided packet reaches the watch of its action entry (R50, R52, R53). -/
def State.reachWatch (p : Feed) (e : RuleIndex) (s : State) : State :=
  let r := s.rules[p][e]
  match r.watchMode with
  | .idle => s
  | .absence => s.setRule p e { r with watchCount := 0, watchState := .armed }
  | .tally => (s.setRule p e { r with watchCount := r.watchCount + 1 }).settleTally p e

/-! ### Acting on a decision (R46, R47) -/

/-- A change of the line in progress that output `p` carries from its input; any other output stands. -/
def State.updateCarried (p : Feed) (f : Line → Line) (s : State) : State :=
  match s.outputs[p] with
  | .line l => if l.generated then s else s.setOutput p (.line (f l))
  | _ => s

/-- A packet of an input line is handed to the line assembler; only a line carried from the input keeps it (R46, R150). -/
def State.handToLine (p : Feed) (x : LinePacket) (s : State) : State :=
  s.updateCarried p fun l => { l with packets := l.packets ++ [x] }

/-- Whether a packet is a passed CARRIAGE packet with a good sum (R136, R138). -/
def passedCarriage (k : Packet) (d : Decision) : Bool := k.kind == kindCarriage && k.good && !d.strip

/-- Seen-this-frame of the packet's slot becomes yes when the packet is a passed CARRIAGE packet with a good sum on a
path whose lines are carried from the input (R138). -/
def State.noteSeen (p : Feed) (k : Packet) (d : Decision) (s : State) : State :=
  match k.slot? with
  | none => s
  | some x =>
    if passedCarriage k d ∧ s.paths[p].timing = .follow then s.setRoute p (s.routes[p].seen x) else s

/-- A decided packet reaches its watch, the line assembler, and, when it is taken, the stream table and the lanes (R46,
R47, R48, R50). -/
def State.actOnDecision (p : Feed) (k : Packet) (d : Decision) (s : State) : State :=
  let s1 := match d.action with
    | none => s
    | some e => s.reachWatch p e
  let s2 := (s1.noteSeen p k d).handToLine p { packet := k, origin := .decided d.strip k.good }
  if k.kind = kindCarriage ∧ k.good ∧ d.take then
    match readCarriage k.payload with
    | none => s2
    | some c => s2.takePacket { feed := p, slot := c.slot } c
  else s2

/-- A complete packet is decided and the decision acted on (R42, R45). -/
def State.classify (p : Feed) (k : Packet) (s : State) : State := s.actOnDecision p k (decide? s.rules[p] k)

end Sys2Proof.Machine
end

