-- ==== Sys2Proof/Machine/PathTiming.lean ====
section
/-! DEFINITION. The input ports' receive state (chapter 1) and the path timing unit (chapter 2): markers, timing states,
feed frame starts, the generated raster, the pending mode change and the house tick. -/

namespace Sys2Proof.Machine

/-! ### Input ports (R2, R3) -/

/-- A line marker at a port; a packet being read is cut (R2, R3, R10). -/
def Port.lineMarked (x : Port) : Port :=
  { x with
    sync := .blanking
    reader := []
    lineCount := if x.framesSeen = 0 then x.lineCount else min 4095 (x.lineCount + 1) }

/-- A frame marker at a port; a packet being read is cut (R2, R3, R10). -/
def Port.frameMarked (x : Port) : Port :=
  { x with
    sync := .blanking
    reader := []
    measuredL := if x.framesSeen = 0 then x.measuredL else some x.lineCount
    framesSeen := min 2 (x.framesSeen + 1)
    lineCount := 1 }

/-- Port `p` returns to UNSYNCED; a packet being read is cut (R2; the line count as in the table under R3: DEDUCED,
assumption 24). Words that may open a marker still may (R1). -/
def State.portUnsynced (p : Feed) (s : State) : State := s.setPort p { portReset with held := s.ports[p].held }

/-! ### Output lines (R5, R21, R32) -/

/-- The index of the output line that follows what an output is doing, in a frame of carried lines (DEDUCED,
assumption 19). -/
def Output.nextIndex (o : Output) : Nat :=
  match o with
  | .line l => l.index + 1
  | .dark => 0
  | .blackRun _ => 0

/-- The line or black run of output `p` ends, and its words are those written last (R5, R32, R33). -/
def State.endLine (p : Feed) (s : State) : State :=
  match s.outputs[p] with
  | .dark => s
  | o => s.setWritten p (o.words (Config.blackWords p s.now))

/-- The line of output `p` is cut: only the words already written stand (R131; DESIGN CHOICE, assumption 12). A black run
has no step left to cut. -/
def State.cutLine (p : Feed) (s : State) : State :=
  match s.outputs[p] with
  | .dark => s
  | .line l => s.setWritten p ((l.words (Config.blackWords p s.now)).take (Config.wordsWritten p s.now))
  | .blackRun _ => s.endLine p

/-- A line that has just begun, before any of its words but the marker. -/
def newLine (index room : Nat) (frameMarker generated : Bool) : Line :=
  { index := index, frameMarker := frameMarker, generated := generated, room := room, packets := [], made := 0,
    replies := false, placed := [], blanking := if generated then room else 0,
    picture := if generated then some [] else none }

/-- A line carried from the input begins on output `p`; its B is the B stored now (R21). -/
def State.beginCarriedLine (p : Feed) (index : Nat) (frameMarker : Bool) (s : State) : State :=
  s.setOutput p (.line (newLine index s.paths[p].room frameMarker false))

/-- A generated line begins on output `p`, with B words of blanking space (R5, R32). -/
def State.beginGeneratedLine (p : Feed) (index : Nat) (s : State) : State :=
  s.setOutput p (.line (newLine index s.paths[p].room (index == 0) true))

/-- RESTART cuts the line of every output (R37, R131). -/
def State.cutLines (s : State) : State := forEach State.cutLine s

/-! ### Feed frame starts (R31, R37) -/

/-- A pending mode change of path `p` is taken (R37). -/
def State.takeMode (p : Feed) (s : State) : State := s.setPath p { s.paths[p] with inForce := s.paths[p].requested }

/-- A feed frame start of path `p` reaches the four blocks that act there, with the frame line count (R31; the order among
them: DEDUCED, assumption 22). -/
def State.feedFrameStart (p : Feed) (lines : Nat) (s : State) : State :=
  (((s.carriageFrameStart p lines).regulate p).routeFrameStart p).probeFrameStart p

/-- An input frame marker ends what output `p` is doing: in FOLLOW the line in progress is complete, and otherwise the
generated frame is cut short (R33, R131). -/
def State.endAtMarker (p : Feed) (s : State) : State :=
  match s.paths[p].timing with
  | .follow => s.endLine p
  | _ => s.cutLine p

/-- An input frame marker that is a feed frame start of path `p`: the pending mode is taken, the path is in FOLLOW with
resume-pending no, no generated frame goes on, line 0 begins, and the blocks act (R21, R27, R31, R33, R37). -/
def State.inputFrameStart (p : Feed) (lines : Nat) (s : State) : State :=
  let s1 := (s.endAtMarker p).takeMode p
  let s2 := s1.setPath p { s1.paths[p] with timing := .follow, resumePending := false }
  ((s2.setRaster p none).beginCarriedLine p 0 true).feedFrameStart p lines

/-! ### Frame markers at the path timing unit (R26, R27, R29) -/

/-- RASTER-CHANGE, when two frame markers in succession delivered measured values of L that differ (R29; DEDUCED,
assumption 25). -/
def State.compareRaster (p : Feed) (before after : Option Nat) (s : State) : State :=
  match before, after with
  | some a, some b => if a = b then s else s.raise (.rasterChange p)
  | _, _ => s

/-- A frame marker of input `p` delivered with L measured or not (R26, R27, R31; without a measured L it begins no
frame: DEDUCED, assumption 17). -/
def State.deliverFrameMarker (p : Feed) (measured : Option Nat) (s : State) : State :=
  match measured with
  | none => s
  | some lines =>
    match s.paths[p].timing with
    | .lost => (s.setPath p { s.paths[p] with timing := .recovered }).raise (.inputReturned p)
    | .recovered =>
      if s.paths[p].inForce = .bypass ∨ s.paths[p].resumePending = true then s.inputFrameStart p lines else s
    | .follow => s.inputFrameStart p lines

/-! ### Loss (R24, R25) -/

/-- What the output of path `p` does at an entry into LOST: with BYPASS in force it stops at once; with NORMAL in force
the line carried in FOLLOW is finished in black, and a generated raster runs on (R33, R131). -/
def State.outputAtLoss (p : Feed) (s : State) : State :=
  match s.paths[p].inForce, s.paths[p].timing with
  | .bypass, _ => (s.cutLine p).setOutput p .dark
  | .normal, .follow =>
    match s.outputs[p] with
    | .line l => s.setOutput p (.blackRun (l.cutWords (Config.wordsWritten p s.now)))
    | _ => s
  | .normal, _ => s

/-- Entry of path `p` into LOST from FOLLOW or RECOVERED (R25, R68, R138). -/
def State.enterLost (p : Feed) (s : State) : State :=
  let s1 := s.outputAtLoss p
  let s2 := s1.setPath p { s1.paths[p] with timing := .lost, resumePending := false }
  let s3 := (s2.portUnsynced p).setRoute p s2.routes[p].flagsCleared
  (s3.removeWhere fun e => e.source.feed == p).raise (.inputLost p)

/-- The loss timer of path `p` expires (R23, R24). -/
def State.lossExpired (p : Feed) (s : State) : State :=
  let s1 := s.setPath p { s.paths[p] with lossTimer := none }
  match s1.paths[p].timing with
  | .lost => s1.portUnsynced p
  | .recovered => s1.enterLost p
  | .follow => s1.enterLost p

/-- A marker arrival restarts the loss timer (R23). -/
def State.restartLoss (p : Feed) (s : State) : State := s.setPath p { s.paths[p] with lossTimer := some s.now }

/-! ### The house tick (R33, R37, R39, R65, R144, R159) -/

/-- A house tick that begins a generated frame ends what output `p` is doing (R33). A frame that has begun all its lines, and
a black run, run on in black until the tick. A frame with lines to come ends in the middle of a line, and the reference does
not say how much of that line is written: a free value, as at a cut (DESIGN CHOICE, assumption 28). -/
def State.endAtTick (p : Feed) (s : State) : State :=
  match s.rasters[p] with
  | none => s.endLine p
  | some g => if g.next < g.lines then s.cutLine p else s.endLine p

/-- A house tick reaches path `p` (R33, R37): in LOST or RECOVERED the pending mode is taken; under NORMAL a generated
frame begins, and under BYPASS none goes on, the line in progress is cut (assumption 28) and the output is dark. The tick
begins line 0 itself (DESIGN CHOICE, assumption 20). -/
def State.tickPath (p : Feed) (s : State) : State :=
  match s.paths[p].timing with
  | .follow => s
  | _ =>
    let s1 := s.takeMode p
    match s1.paths[p].inForce with
    | .normal =>
      let frame : GenFrame :=
        { start := s.now, period := s.tick.tickPeriod, lines := s1.paths[p].fallback, next := 1,
          begun := s.now }
      (((s1.endAtTick p).setRaster p (some frame)).beginGeneratedLine p 0).feedFrameStart p frame.lines
    | .bypass => ((s1.setRaster p none).cutLine p).setOutput p .dark

/-- A consumer of the house tick whose order among the others may show (R39). -/
inductive TickConsumer where
  | table
  | probe
  | path (p : Feed)
  deriving DecidableEq, Repr

/-- The tick at one consumer. -/
def TickConsumer.act (c : TickConsumer) (s : State) : State :=
  match c with
  | .table => s.tickTable
  | .probe => s.probeTick
  | .path p => s.tickPath p

/-- The consumers whose order may show. -/
def tickConsumers : List TickConsumer := [.table, .probe] ++ (List.finRange 8).map .path

/-- A list in the order that `pick` draws: each next member is the one it picks among those left. -/
def drawn {α : Type} (pick : Nat → Nat) : Nat → List α → List α
  | 0, _ => []
  | n + 1, l =>
    let i := pick n % l.length
    match l[i]? with
    | none => []
    | some x => x :: drawn pick n (l.eraseIdx i)

/-- Whether the order of a tick's consumers can show: a frame will be generated, and the table will sweep or the probe
runs (R39, R117, R148). -/
def State.tickOrderShows (s : State) : Bool :=
  (List.finRange 8).any (fun p => s.paths[p].timing != .follow && s.paths[p].requested == .normal) &&
    (s.sweepDue || s.probe.run != .stopped)

/-- The order of a tick's consumers: a free order where it shows (DESIGN CHOICE, assumption 6). -/
def State.tickOrder (s : State) : List TickConsumer :=
  if s.tickOrderShows then drawn (Config.tickPick s.freeCount) tickConsumers.length tickConsumers else tickConsumers

/-- A house tick: its count, and its delivery to the classifiers, the control channel, and the consumers whose order may
show (R39, R51, R159). -/
def State.houseTick (s : State) : State :=
  let s1 := s.setTick { s.tick with count := (s.tick.count + 1) % 256 }
  let s2 := { s1.tickWatches with
    beaconPending := s.beaconPending || s.settings.beaconEnabled
    freeCount := s.freeCount + 1 }
  forList TickConsumer.act s.tickOrder s2

/-- A pulse on the house frame input (R39). -/
def State.pulse (s : State) : State :=
  let t := s.tick
  match t.reference with
  | .present =>
    let period := match t.lastPulse with
      | none => t.period
      | some i => some (s.now - i)
    (s.setTick { t with period := period, lastPulse := some s.now, absenceTimer := some s.now }).houseTick
  | .absent =>
    ((s.setTick { t with reference := .present, lastPulse := some s.now, absenceTimer := some s.now,
                         freewheelTimer := none }).raise .houseReturned).houseTick

/-- The absence timer expires in PRESENT (R40). -/
def State.absenceExpired (s : State) : State :=
  ((s.setTick { s.tick with reference := .absent, absenceTimer := none,
                            freewheelTimer := some s.now }).raise .houseLost).houseTick

/-- The freewheel timer expires in ABSENT (R40). -/
def State.freewheelExpired (s : State) : State := (s.setTick { s.tick with freewheelTimer := some s.now }).houseTick

/-! ### Generated lines (R32) -/

/-- Whether the next line of a generated frame is due at `now`: line j not before the start plus j × P / Lf (R32). -/
def GenFrame.lineDue (g : GenFrame) (now : Nat) : Bool :=
  g.next < g.lines && g.start * g.lines + g.next * g.period ≤ now * g.lines

/-- Whether the picture mark of the line in progress on output `p`, which began at an instant, has been written; until then
it holds the next generated line back (R32; the time of the words is a free value: DESIGN CHOICE, assumption 27). -/
def State.markWritten (p : Feed) (begun : Nat) (s : State) : Bool :=
  match s.outputs[p] with
  | .line l => begun + Config.writingTime p begun l.markEnd ≤ s.now
  | .dark => true
  | .blackRun _ => true

/-- The next line of the generated frame of path `p` begins, if it is due and the line before it has its picture mark
(R32). -/
def State.generatedLine (p : Feed) (s : State) : State :=
  match s.rasters[p] with
  | none => s
  | some g =>
    if g.lineDue s.now && s.markWritten p g.begun then
      ((s.setRaster p (some { g with next := g.next + 1, begun := s.now })).endLine p).beginGeneratedLine p g.next
    else s

end Sys2Proof.Machine
end

