-- ==== Sys2Proof/Machine/Control.lean ====
section
/-! DEFINITION. The control channel (chapter 10): taking commands, executing the head of the command queue, and what
each command does to the tables. -/

namespace Sys2Proof.Machine

/-- What a command's execution comes to: the state, the outcome code and the results of its reply (R151). -/
structure Answer where
  state : State
  code : OutcomeCode
  results : List Nat
  deriving DecidableEq, Repr

/-- A refused command changes nothing and has no results (R16, R151). -/
def refuse (s : State) (code : OutcomeCode) : Answer := { state := s, code := code, results := [] }

/-- A command answered DONE without results. -/
def done (s : State) : Answer := { state := s, code := .done, results := [] }

/-- A read answered DONE with an entry's fields. -/
def found (s : State) (fields : List Nat) : Answer := { state := s, code := .done, results := fields }

/-- A write answered DONE, or ADJUSTED when a field was clamped, with the fields as stored. -/
def stored (s : State) (adjusted : Bool) (fields : List Nat) : Answer :=
  { state := s, code := if adjusted then .adjusted else .done, results := fields }

/-! ### Reads (R58, R96, R139, R71, R22, R142, R153) -/

/-- The feed and the rule entry that a RULE index names (R19). -/
def ruleIndex? (i : Nat) : Option (Feed × RuleIndex) :=
  if i < 128 then some (Fin.ofNat 8 (i / 16), Fin.ofNat 16 i) else none

/-- The feed and the slot that a ROUTE index names (R19). -/
def slotIndex? (i : Nat) : Option (Feed × Slot) :=
  if i < 64 then some (Fin.ofNat 8 (i / 8), Fin.ofNat 8 i) else none

def State.readRule (s : State) (i : Nat) : Answer :=
  match ruleIndex? i with
  | none => refuse s .badIndex
  | some (p, e) => found s s.rules[p][e].readFields

def State.readLane (s : State) (i : Nat) : Answer :=
  match index? 32 i with
  | none => refuse s .badIndex
  | some l => found s (s.lanes[l].readFields s.regulators[l])

def State.readRouteShadow (s : State) (i : Nat) : Answer :=
  match slotIndex? i with
  | none => refuse s .badIndex
  | some (p, x) => found s (s.routes[p].shadow[x].writeFields ++ [yesNo s.routes[p].swapPending])

def State.readRouteLive (s : State) (i : Nat) : Answer :=
  match slotIndex? i with
  | none => refuse s .badIndex
  | some (p, x) =>
    let r := s.routes[p]
    found s (r.live[x].writeFields ++ [r.clips[x], yesNo r.seenLast[x], yesNo r.swapPending])

def State.readStream (s : State) (i : Nat) : Answer :=
  match index? 48 i with
  | none => refuse s .badIndex
  | some n => found s (streamFields s.streams[n] s.tableCount n.val)

def State.readPath (s : State) (i : Nat) : Answer :=
  match index? 8 i with
  | none => refuse s .badIndex
  | some p => found s (s.paths[p].readFields s.ports[p] s.carriage[p])

def State.readProbe (s : State) (i : Nat) : Answer :=
  match index? 32 i with
  | none => refuse s .badIndex
  | some l => found s (probeFields s.probe.results[l] s.probe.run)

def State.readSettings (s : State) (i : Nat) : Answer :=
  if i = 0 then found s (s.settings.writeFields ++ [s.deviceAddress.val]) else refuse s .badIndex

/-! ### Writes (R57, R74 to R76, R123, R20, R153) -/

/-- A RULE write (R57). -/
def State.writeRule (s : State) (i : Nat) (w : RuleWrite) : Answer :=
  match ruleIndex? i with
  | none => refuse s .badIndex
  | some (p, e) =>
    match judgeRule w with
    | none => refuse s .badValue
    | some x => stored (s.setRule p e x) (outside 1 4095 w.watchLimit) x.writeFields

/-- The descriptor fields of a lane as a write stores them. -/
def Lane.withDescriptor (x : Lane) (d : LaneDescriptor) : Lane :=
  { x with primary := d.primary, backup := d.backup, drain := d.drain, target := d.target, window := d.window,
           invertLeft := d.invertLeft, invertRight := d.invertRight, autoReturn := d.autoReturn }

/-- Whether a write changes a source or the drain feed of a lane (R75). -/
def Lane.moves (x : Lane) (d : LaneDescriptor) : Bool :=
  x.primary != d.primary || x.backup != d.backup || x.drain != d.drain

/-- Whether a route entry of a feed other than the drain written names the lane (R74, second step). -/
def State.laneInUse (s : State) (l : LaneId) (drain : Feed) : Bool :=
  s.lanes[l].drain != drain && (List.finRange 8).any fun f => f != drain && s.routes[f].names l

/-- An accepted lane write stored; one that changes a source or the drain empties the lane (R75, R76). -/
def State.storeDescriptor (l : LaneId) (d : LaneDescriptor) (s : State) : State :=
  let s1 := s.setLane l (s.lanes[l].withDescriptor d)
  if s.lanes[l].moves d then
    s1.emptyLane l .primary (if d.primary.isSome then .priming else .idle)
  else s1

/-- A LANE write (R74). -/
def State.writeLane (s : State) (i : Nat) (w : LaneWrite) : Answer :=
  match index? 32 i with
  | none => refuse s .badIndex
  | some l =>
    match judgeLane w with
    | none => refuse s .badValue
    | some d =>
      if s.laneInUse l d.drain then refuse s .laneInUse
      else
        stored (s.storeDescriptor l d) (outside 16 1984 w.target || outside 4 256 w.window)
          (s.lanes[l].withDescriptor d).writeFields

/-- Whether a lane reference names a present lane drained by a feed other than `p` (R123, step 4). -/
def State.drainedElsewhere (s : State) (p : Feed) (l : Option LaneId) : Bool :=
  match l with
  | none => false
  | some n => s.lanes[n].drain != p

/-- A ROUTE-SHADOW write (R123). -/
def State.writeRouteShadow (s : State) (i : Nat) (w : SlotWrite) : Answer :=
  match slotIndex? i with
  | none => refuse s .badIndex
  | some (p, x) =>
    match judgeSlot w with
    | none => refuse s .badValue
    | some e =>
      let r := s.routes[p]
      if r.swapPending then refuse s .pending
      else if s.drainedElsewhere p e.laneA || s.drainedElsewhere p e.laneB then refuse s .routeConflict
      else stored (s.setRoute p { r with shadow := r.shadow.set x e }) false e.writeFields

/-- A path record with the six written fields stored (R20). -/
def Path.withSettings (x : Path) (w : PathSettings) : Path :=
  { x with requested := w.mode, fn := w.fn, fd := w.fd, quiet := w.quiet, room := w.room, fallback := w.fallback }

/-- A PATH write (R20); a change of Fn or Fd is a rate change (R21, R103). -/
def State.writePath (s : State) (i : Nat) (w : PathWrite) : Answer :=
  match index? 8 i with
  | none => refuse s .badIndex
  | some p =>
    match judgePath w with
    | none => refuse s .badValue
    | some x =>
      let s1 := s.setPath p (s.paths[p].withSettings x)
      let s2 := if x.fn = s.paths[p].fn ∧ x.fd = s.paths[p].fd then s1
        else s1.setCarriage p s.carriage[p].rateChange
      stored s2 (outside 0 15 w.quiet || outside 128 1023 w.room || outside 16 2047 w.fallback)
        (s.paths[p].withSettings x).writeFields

/-- A SETTINGS write; storing beacon enabled no withdraws a pending beacon (R153). -/
def State.writeSettings (s : State) (i : Nat) (w : SettingsWrite) : Answer :=
  if i = 0 then
    match judgeSettings w with
    | none => refuse s .badValue
    | some x =>
      stored { s with settings := x, beaconPending := s.beaconPending && x.beaconEnabled }
        (outside 1 255 w.sweepInterval) x.writeFields
  else refuse s .badIndex

/-! ### Commands -/

/-- Swap-pending becomes yes for each feed of a set (R126). -/
def State.armSwaps (feeds : Nat) (s : State) : State :=
  forEach (fun p t => if feeds.testBit p.val then t.setRoute p { t.routes[p] with swapPending := true } else t) s

/-- SWAP-ROUTES (R126). -/
def State.swapRoutes (s : State) (feeds : Nat) : Answer :=
  if feeds ≤ 255 then done (s.armSwaps feeds) else refuse s .badValue

/-- COPY-LIVE (R125). -/
def State.copyLive (s : State) (feed : Nat) : Answer :=
  match index? 8 feed with
  | none => refuse s .badValue
  | some p =>
    if s.routes[p].swapPending then refuse s .pending else done (s.setRoute p s.routes[p].copied)

/-- FLUSH-LANE (R93). -/
def State.flushLane (s : State) (lane : Nat) : Answer :=
  match index? 32 lane with
  | none => refuse s .badValue
  | some l =>
    if s.lanes[l].state = .idle then done s else done (s.emptyLane l s.lanes[l].active .priming)

/-- RETURN-PRIMARY (R92). -/
def State.returnPrimary (s : State) (lane : Nat) : Answer :=
  match index? 32 lane with
  | none => refuse s .badValue
  | some l =>
    match s.lanes[l].active with
    | .primary => done s
    | .backup => if s.hasSource s.lanes[l].primary then done (s.emptyLane l .primary .priming) else refuse s .noSignal

/-- RESUME (R28). -/
def State.resumePath (s : State) (feed : Nat) : Answer :=
  match index? 8 feed with
  | none => refuse s .badValue
  | some p =>
    match s.paths[p].timing with
    | .recovered => done (s.setPath p { s.paths[p] with resumePending := true })
    | .lost => refuse s .noSignal
    | .follow => done s

/-- CLEAR-STREAMS (R69). -/
def State.clearStreams (s : State) : Answer := done (s.removeWhere fun _ => true)

/-- READ-STATUS (R158). -/
def State.readStatus (s : State) (cursor : Nat) : Answer :=
  if cursor ≤ 3967 then found s (s.statusFields cursor) else refuse s .badValue

/-- CLEAR-NOTICE (R157). -/
def State.clearNotice (s : State) (kind subject generation : Nat) : Answer :=
  match Notice.named? kind subject with
  | none => refuse s .badValue
  | some n =>
    if 255 < generation then refuse s .badValue
    else if !(s.notice n).raised then done s
    else if (s.notice n).generation ≠ generation then refuse s .stale
    else if s.persists n then refuse s .persists
    else done (s.setNotice n.index { s.notice n with raised := false })

/-- The run state of an accepted PROBE-START (R143). -/
def ProbeSettings.startRun (x : ProbeSettings) : ProbeRun :=
  match x.trigger with
  | .house => .awaitTick x.first
  | .command => .awaitFrame x.first

/-- PROBE-START: an open window is discarded, the settings are stored, and the run begins (R143). -/
def State.startProbe (s : State) (mode first last trigger : Nat) : Answer :=
  match judgeProbe mode first last trigger with
  | none => refuse s .badValue
  | some x => done (s.setProbe { s.probe with settings := x, run := x.startRun })

/-- PROBE-STOP (R144). -/
def State.stopProbe (s : State) : Answer := done (s.setProbe { s.probe with run := .stopped })

/-- A decoded command executed (R151); RESTART's own reply is appended after both queues are emptied (R161). -/
def State.perform (s : State) (op : Op) : Answer :=
  match op with
  | .readRule i => s.readRule i
  | .readLane i => s.readLane i
  | .readRouteShadow i => s.readRouteShadow i
  | .readRouteLive i => s.readRouteLive i
  | .readStream i => s.readStream i
  | .readPath i => s.readPath i
  | .readProbe i => s.readProbe i
  | .readSettings i => s.readSettings i
  | .writeRule i w => s.writeRule i w
  | .writeLane i w => s.writeLane i w
  | .writeRouteShadow i w => s.writeRouteShadow i w
  | .writePath i w => s.writePath i w
  | .writeSettings i w => s.writeSettings i w
  | .swapRoutes feeds => s.swapRoutes feeds
  | .copyLive feed => s.copyLive feed
  | .flushLane lane => s.flushLane lane
  | .returnPrimary lane => s.returnPrimary lane
  | .resume feed => s.resumePath feed
  | .clearStreams => s.clearStreams
  | .readStatus cursor => s.readStatus cursor
  | .clearNotice kind subject generation => s.clearNotice kind subject generation
  | .probeStart mode first last trigger => s.startProbe mode first last trigger
  | .probeStop => s.stopProbe
  | .restart => done s.cutLines.resetBlocks

/-! ### The queues (R149, R151, R152) -/

/-- A non-broadcast command judged and executed (R151). -/
def State.judge (s : State) (c : Command) : Answer :=
  match c.decode with
  | .error code => refuse s code
  | .ok op => s.perform op

/-- The reply to a command (R16). -/
def replyTo (address : Fin 15) (c : Command) (a : Answer) : Reply :=
  { fields := [address.val, c.tag, a.code.code] ++ a.results }

/-- A non-broadcast command leaves the command queue, executes, and has its reply appended, in one step (R151). -/
def State.executeCommand (c : Command) (s : State) : State :=
  let a := s.judge c
  { a.state with replyQueue := a.state.replyQueue ++ [replyTo s.deviceAddress c a] }

/-- A broadcast at the head executes or is discarded, and makes no reply (R152). -/
def State.executeBroadcast (c : Command) (s : State) : State :=
  match c.broadcastSwap? with
  | none => s
  | some feeds => s.armSwaps feeds

/-- The head of the command queue executes if it may: a broadcast always, another command while fewer than 8 replies
wait (R151, R152). -/
def State.executeHead (s : State) : State :=
  match s.commandQueue with
  | [] => s
  | c :: rest =>
    if c.broadcast then { s with commandQueue := rest }.executeBroadcast c
    else if s.replyQueue.length < 8 then { s with commandQueue := rest }.executeCommand c
    else s

/-- `n` turns of the command queue. -/
def State.executeHeads : Nat → State → State
  | 0, s => s
  | n + 1, s => s.executeHead.executeHeads n

/-- The command queue runs until its head must wait: each command executes at the first moment it may (R151). -/
def State.runQueue (s : State) : State := s.executeHeads s.commandQueue.length

/-- A command addressed to the part is taken: appended to a queue of fewer than 4, or lost with COMMAND-OVERRUN (R149). -/
def State.takeCommand (c : Command) (s : State) : State :=
  if s.commandQueue.length < 4 then { s with commandQueue := s.commandQueue ++ [c] } else s.raise .commandOverrun

/-- A command reaches the control channel: it is taken, and what may execute executes (R149, R151). That a packet brings
it only to a control feed whose port has left UNSYNCED (R162) is the port's doing; a command row is taken in any state of
the port (DESIGN CHOICE, assumption 8). -/
def State.submit (c : Command) (s : State) : State := (s.takeCommand c).runQueue

/-- A command for this part with a good sum and a whole payload, from its fields behind the address. -/
def State.ownCommand (s : State) (fields : List Nat) : Command :=
  { fields := s.deviceAddress.val :: fields, ragged := false, sumGood := true, broadcast := false }

/-- Whether a complete COMMAND packet that arrived on feed `p` is addressed to the part (R17): on the control feed, a
first field equal to the device address or 15. -/
def State.addressed (s : State) (p : Feed) (k : Packet) : Bool :=
  k.kind == kindCommand && s.settings.controlFeed == p &&
    (match (readFields k.payload).head? with
     | none => false
     | some a => a == s.deviceAddress.val || a == 15)

/-- Whether a COMMAND packet addressed to the part is left on the feed: a broadcast, or one that finds the command queue
full (R149). -/
def State.leftOnFeed (s : State) (c : Command) : Bool := c.broadcast || 4 ≤ s.commandQueue.length

/-- A COMMAND packet addressed to the part completes (R149, R150, R151). -/
def State.commandArrives (p : Feed) (k : Packet) (s : State) : State :=
  let c := Command.ofPayload k.payload k.good
  let s1 := if s.leftOnFeed c then s.handToLine p { packet := k, origin := .leftCommand } else s
  s1.submit c

/-- A packet completes at port `p` (R6, R42): it goes to the control channel or is decided. -/
def State.packetArrives (p : Feed) (k : Packet) (s : State) : State :=
  if s.addressed p k then s.commandArrives p k else s.classify p k

end Sys2Proof.Machine
end

