-- ==== Sys2Proof/Machine/Commands.lean ====
section
/-! DEFINITION. The meanings of the other command rows, and of the two resets. Each other row is the
arrival at the control channel of that command, addressed to the part with a good sum; it executes at the first moment it may (R149, R151; DESIGN CHOICE, assumption 8). -/

namespace Sys2Proof.Machine

/-- SWAP_ROUTES (R126), addressed to the part, or as a broadcast, which makes no reply (R152). -/
def execSwapRoutes (broadcast : Bool) (tag feeds : Field) (s : State) : Host.Outcome State Fault Refusal :=
  if broadcast then
    .next (s.submit { fields := [15, tag.toNat, 3, feeds.toNat], ragged := false, sumGood := true, broadcast := true })
  else .next (s.submit (s.ownCommand [tag.toNat, 3, feeds.toNat]))

/-- COPY_LIVE (R125). -/
def execCopyLive (tag feed : Field) (s : State) : Host.Outcome State Fault Refusal :=
  .next (s.submit (s.ownCommand [tag.toNat, 4, feed.toNat]))

/-- FLUSH_LANE (R93). -/
def execFlushLane (tag lane : Field) (s : State) : Host.Outcome State Fault Refusal :=
  .next (s.submit (s.ownCommand [tag.toNat, 5, lane.toNat]))

/-- RETURN_PRIMARY (R92). -/
def execReturnPrimary (tag lane : Field) (s : State) : Host.Outcome State Fault Refusal :=
  .next (s.submit (s.ownCommand [tag.toNat, 6, lane.toNat]))

/-- RESUME (R28). -/
def execResume (tag feed : Field) (s : State) : Host.Outcome State Fault Refusal :=
  .next (s.submit (s.ownCommand [tag.toNat, 7, feed.toNat]))

/-- CLEAR_STREAMS (R69). -/
def execClearStreams (tag : Field) (s : State) : Host.Outcome State Fault Refusal :=
  .next (s.submit (s.ownCommand [tag.toNat, 8]))

/-- READ_STATUS (R158). -/
def execReadStatus (tag cursor : Field) (s : State) : Host.Outcome State Fault Refusal :=
  .next (s.submit (s.ownCommand [tag.toNat, 9, cursor.toNat]))

/-- CLEAR_NOTICE (R157). -/
def execClearNotice (tag kind subject generation : Field) (s : State) : Host.Outcome State Fault Refusal :=
  .next (s.submit (s.ownCommand [tag.toNat, 10, kind.toNat, subject.toNat, generation.toNat]))

/-- PROBE_START (R143). -/
def execProbeStart (tag mode first last trigger : Field) (s : State) : Host.Outcome State Fault Refusal :=
  .next (s.submit (s.ownCommand [tag.toNat, 11, mode.toNat, first.toNat, last.toNat, trigger.toNat]))

/-- PROBE_STOP (R144). -/
def execProbeStop (tag : Field) (s : State) : Host.Outcome State Fault Refusal :=
  .next (s.submit (s.ownCommand [tag.toNat, 12]))

/-- RESTART (R161): the lines in progress are cut (R131), and every block but the SETTINGS entry and the address takes its
reset values. -/
def execRestart (tag : Field) (s : State) : Host.Outcome State Fault Refusal :=
  .next (s.submit (s.ownCommand [tag.toNat, 13]))

/-- BAD_COMMAND: executed as nothing and answered by the decoding of R17 (R151). -/
def execBadCommand (rest : List FeedWord) (sumGood : Bool) (s : State) : Host.Outcome State Fault Refusal :=
  .next (s.submit (commandOfWords s.deviceAddress.val rest sumGood false))

/-- BROADCAST_DISCARD: discarded at the head of the command queue without a reply (R152). -/
def execBroadcastDiscard (rest : List FeedWord) (sumGood : Bool) (s : State) : Host.Outcome State Fault Refusal :=
  .next (s.submit (commandOfWords 15 rest sumGood true))

/-- POWER_ON_RESET: the straps are sampled, and every block takes its reset values (R160); no words written are held
(DESIGN CHOICE, assumption 12). -/
def execPowerOnReset (addressStraps : Fin 16) (feedStraps : Feed) (s : State) : Host.Outcome State Fault Refusal :=
  .next { s.resetBlocks with
    written := State.reset.written
    deviceAddress := addressOfStraps addressStraps
    settings := settingsReset feedStraps }

end Sys2Proof.Machine
end

