-- ==== Sys2Proof/Machine/InputPort.lean ====
section
/-! DEFINITION. Feed words arriving at an input port (chapter 1): marks recognised at every position, blanking words read
for packets, picture words carried; and the meanings of the rows that are such arrivals. The words that no row spells, the
idle and picture words among them, arrive before or behind the words of a row (DESIGN CHOICE, assumption 10). -/

namespace Sys2Proof.Machine

/-! ### Marks (R1, R2, R3) -/

/-- A line marker arrives: the line in progress ends and a new one begins, the line count rises, the loss timer restarts,
and a packet being read is cut (R1, R2, R3, R10, R23); on a path in FOLLOW the output's next line begins (R5, R34, R35). -/
def State.lineMarkerArrives (p : Feed) (s : State) : State :=
  let s1 := s.restartLoss p
  let s2 := s1.setPort p s1.ports[p].lineMarked
  if s2.paths[p].timing = .follow then (s2.endLine p).beginCarriedLine p s2.outputs[p].nextIndex false else s2

/-- A frame marker arrives: the port measures L and delivers the marker with it (R3); the path timing unit compares it
(R29), moves the path (R26, R27) and takes the feed frame start (R31). -/
def State.frameMarkerArrives (p : Feed) (s : State) : State :=
  let s1 := s.restartLoss p
  let port := s1.ports[p].frameMarked
  let s2 := (s1.setPort p port).compareRaster p s1.ports[p].measuredL port.measuredL
  s2.deliverFrameMarker p port.measuredL

/-- A picture mark arrives in a blanking space: it begins the picture and cuts a packet being read, and the line carried
from the input begins its picture too (R1, R2, R5, R10). -/
def State.pictureMarkArrives (p : Feed) (s : State) : State :=
  (s.setPort p { s.ports[p] with sync := .picture, reader := [] }).updateCarried p fun l => { l with picture := some [] }

/-! ### Ordinary words (R2, R5, R6) -/

/-- A word of a blanking space: the line carried from the input is one word longer, and the packet reader reads the word
(R5, R6). -/
def State.blankingWord (p : Feed) (w : FeedWord) (s : State) : State :=
  let s1 := s.updateCarried p fun l => { l with blanking := l.blanking + 1 }
  let r := readWord s1.ports[p].reader w
  let s2 := s1.setPort p { s1.ports[p] with reader := r.1 }
  match r.2 with
  | none => s2
  | some k => s2.packetArrives p k

/-- A word of a picture: the line carried from the input carries it (R5). -/
def State.pictureWord (p : Feed) (w : FeedWord) (s : State) : State :=
  s.updateCarried p fun l => { l with picture := l.picture.map fun ws => ws ++ [w] }

/-- A word that belongs to no mark, in the region it falls in; in UNSYNCED it is discarded (R2). -/
def State.plainWord (p : Feed) (w : FeedWord) (s : State) : State :=
  match s.ports[p].sync with
  | .unsynced => s
  | .blanking => s.blankingWord p w
  | .picture => s.pictureWord p w

/-! ### Words (R1) -/

/-- The words of a mark arrive. Outside a blanking space a picture mark is three ordinary words (R1, R2). -/
def State.markArrives (p : Feed) (m : Mark) (s : State) : State :=
  match m with
  | .line => s.lineMarkerArrives p
  | .frame => s.frameMarkerArrives p
  | .picture =>
    match s.ports[p].sync with
    | .blanking => s.pictureMarkArrives p
    | _ => forList (State.plainWord p) m.words s

/-- What input port `p` holds back of a mark (R1). -/
def State.hold (p : Feed) (h : Held) (s : State) : State := s.setPort p { s.ports[p] with held := h }

/-- One feed word arrives at input port `p` (R1). -/
def State.wordArrives (p : Feed) (w : FeedWord) (s : State) : State :=
  let r := recognise s.ports[p].held w
  let s1 := forList (State.plainWord p) r.plain (s.hold p .nothing)
  match r.mark with
  | none => s1.hold p r.held
  | some m => s1.markArrives p m

/-- Feed words arrive at input port `p`, one after another. -/
def State.wordsArrive (p : Feed) (ws : List FeedWord) (s : State) : State := forList (State.wordArrives p) ws s

/-- The words of an event arrive at a port, with those before and behind them. -/
def State.arrive (a : Arrival) (ws : List FeedWord) (s : State) : State := s.wordsArrive a.port (a.before ++ ws ++ a.behind)

/-! ### The rows -/

/-- LINE_MARKER (R3). -/
def execLineMarker (a : Arrival) (dt : Nat) (s : State) : Host.Outcome State Fault Refusal :=
  .next ((s.elapse dt).arrive a lineMarkerWords)

/-- FRAME_MARKER (R3). -/
def execFrameMarker (a : Arrival) (dt : Nat) (s : State) : Host.Outcome State Fault Refusal :=
  .next ((s.elapse dt).arrive a frameMarkerWords)

/-- PICTURE_MARK (R2). -/
def execPictureMark (a : Arrival) (dt : Nat) (s : State) : Host.Outcome State Fault Refusal :=
  .next ((s.elapse dt).arrive a pictureMarkWords)

/-- PACKET_BEGINS: the lead marks; in a blanking space with no packet being read they begin one (R6), inside a packet they
are its words (R10), and in UNSYNCED and PICTURE they are not looked at (R2). -/
def execPacketBegins (a : Arrival) (s : State) : Host.Outcome State Fault Refusal := .next (s.arrive a leadMarks)

/-- MALFORMED_HEADER: a kind and a span word (R6). -/
def execMalformedHeader (a : Arrival) (kind span : FeedWord) (s : State) : Host.Outcome State Fault Refusal :=
  .next (s.arrive a [kind, span])

/-- PACKET_COMPLETE: the words of a packet behind its lead marks; with the last the packet is complete and goes to the
control channel or to the classifier (R6, R7, R8, R42, R149). -/
def execPacketComplete (a : Arrival) (kind : BitVec 8) (payload : List FeedWord) (sum : FeedWord) (s : State) :
    Host.Outcome State Fault Refusal :=
  .next (s.arrive a (packetTail kind payload sum))

end Sys2Proof.Machine
end

