-- ==== Sys2Proof/Machine/Assembler.lean ====
section
/-! DEFINITION. The line assembler (chapter 8, sections 8.5 and 8.6; R35): the four steps that build an output line. Each
step acts on the line in progress; a line that has been cut meanwhile takes no further step (R131). -/

namespace Sys2Proof.Machine

/-! ### The line in progress -/

/-- A change of the line in progress on output `p`; an output without one stands. -/
def State.updateLine (p : Feed) (f : Line → Line) (s : State) : State :=
  match s.outputs[p] with
  | .line l => s.setOutput p (.line (f l))
  | _ => s

/-- A packet is placed on the line in progress, behind those already placed (R131). -/
def State.place (p : Feed) (k : Packet) (s : State) : State := s.updateLine p fun l => { l with placed := l.placed ++ [k] }

/-- The words that the packets placed on a line take. -/
def Line.used (l : Line) : Nat := packetsSize l.placed

/-- The room left on a line (R131). -/
def Line.roomLeft (l : Line) : Nat := l.room - l.used

/-! ### Passed packets (R132, R136, R137, R35) -/

/-- A good CARRIAGE packet that the classifier passed meets the live entry of its slot (R136, R137). -/
def State.placeCarriage (p : Feed) (k : Packet) (x : Slot) (s : State) : State :=
  let r := s.routes[p]
  if r.live[x].armed then
    match r.live[x].policy with
    | .yields => ((s.setRoute p (r.disarm x)).raise (.slotCollision p x)).place p k
    | .overrides => s.raise (.slotCollision p x)
  else s.place p k

/-- One packet of the input line in the passed-packets step of a NORMAL path (R9, R132, R150). -/
def State.placePassed (p : Feed) (x : LinePacket) (s : State) : State :=
  match x.origin with
  | .leftCommand => s.place p x.packet
  | .decided strip good =>
    if strip then s
    else if good then
      if x.packet.kind = kindCarriage then
        match x.packet.slot? with
        | none => s.place p x.packet
        | some slot => s.placeCarriage p x.packet slot
      else s.place p x.packet
    else s.place p x.packet.spoilt

/-- The passed-packets step (R131, R132): on a NORMAL path what the classifier passed, on a BYPASS path every packet with
its words as they arrived. A generated line has no packets of an input line. -/
def State.passedStep (p : Feed) (l : Line) (s : State) : State :=
  match s.paths[p].inForce with
  | .normal => forList (State.placePassed p) l.packets s
  | .bypass => forList (fun x => State.place p x.packet) l.packets s

/-! ### The beacon (R133, R159) -/

/-- The beacon's packet, made at its placement (R16, R159). -/
def State.beaconPacket (s : State) : Packet :=
  makePacket kindBeacon (writeFields [s.deviceAddress.val, s.tick.count, s.noticeSummary, s.raisedNotices.length])

/-- The beacon step (R133). It finds whether the line is one of the reply feed, and whether a waiting beacon holds the
replies back (R131). -/
def State.beaconStep (p : Feed) (l : Line) (s : State) : State :=
  if s.settings.replyFeed = p then
    if s.beaconPending then
      if beaconSize ≤ l.roomLeft then
        ({ s with beaconPending := false }.place p s.beaconPacket).updateLine p fun y => { y with replies := true }
      else s
    else s.updateLine p fun y => { y with replies := true }
  else s

/-! ### Replies (R134) -/

/-- A reply placed: it leaves the queue, and the commands that now find room execute (R134, R151). -/
def State.placeReply (p : Feed) (r : Reply) (rest : List Reply) (s : State) : State :=
  { s.place p r.packet with replyQueue := rest }.runQueue

/-- The replies step over at most `n` replies, those that stood in the queue when it began; `fresh` says that no word
was placed before it. It ends at a reply that does not fit, behind an overlong reply, when the line is cut, and when
the reply feed moves (R134; overlong replies: DEDUCED, assumption 14). -/
def State.repliesLoop (p : Feed) (fresh : Bool) : Nat → State → State
  | 0, s => s
  | n + 1, s =>
    match s.outputs[p] with
    | .line l =>
      if s.settings.replyFeed = p then
        match s.replyQueue with
        | [] => s
        | r :: rest =>
          if r.size ≤ l.roomLeft then (s.placeReply p r rest).repliesLoop p fresh n
          else if l.room < r.size ∧ fresh = true then s.placeReply p r rest
          else s
      else s
    | _ => s

/-- The replies step (R133, R134). -/
def State.repliesStep (p : Feed) (l : Line) (s : State) : State :=
  if l.replies then s.repliesLoop p l.placed.isEmpty s.replyQueue.length else s

/-! ### Carriage (R135, R106, R130) -/

/-- The room a carriage request carries: none on a path with BYPASS in force (R106, R135). -/
def State.requestRoom (p : Feed) (l : Line) (s : State) : Option Nat :=
  match s.paths[p].inForce with
  | .normal => some l.roomLeft
  | .bypass => none

/-- The carriage step: on a carriage line the request is answered, every draining lane is popped, and on a NORMAL path with
a set count of 1 or more every armed slot places its packet and counts its clips; lines of index below the frame's Q are
quiet (R106, R129, R130, R135). -/
def State.carriageStep (p : Feed) (l : Line) (s : State) : State :=
  if s.carriage[p].frameQuiet ≤ l.index then
    let r := s.routes[p]
    let k := s.carriage[p].answer (s.requestRoom p l) r.armedSlots.length
    let s1 := s.carriageRequest p k
    match s.paths[p].inForce with
    | .bypass => s1
    | .normal =>
      if k = 0 then s1
      else
        forList (State.place p) (r.carriagePackets s.carriage[p].phase k (s.yields k)) (s1.setRoute p (r.clipped k (s.yields k)))
  else s

/-! ### The line -/

/-- The place of a step among the four (R131). -/
def lineStepPlace (x : LineStep) : Nat :=
  match x with
  | .passed => 0
  | .beacon => 1
  | .replies => 2
  | .carriage => 3

/-- What a step does to a line (R131). -/
def makeLineStep (x : LineStep) (p : Feed) (l : Line) (s : State) : State :=
  match x with
  | .passed => s.passedStep p l
  | .beacon => s.beaconStep p l
  | .replies => s.repliesStep p l
  | .carriage => s.carriageStep p l

/-- A step of the line in progress on output `p`, if it is the line's next step. -/
def State.makeStep (p : Feed) (x : LineStep) (s : State) : State :=
  match s.outputs[p] with
  | .line l =>
    if l.made = lineStepPlace x then
      makeLineStep x p { l with made := lineStepPlace x + 1 } (s.setOutput p (.line { l with made := lineStepPlace x + 1 }))
    else s
  | _ => s

/-- The line in progress on output `p` is assembled through the step `upTo`: the steps not yet made are made, in order. A
line cut by a RESTART during its replies step goes no further, and an output without a line has none to assemble (R131;
DEDUCED, assumption 23). -/
def State.assembleTo (p : Feed) (upTo : LineStep) (s : State) : State :=
  forList (State.makeStep p) ([LineStep.passed, .beacon, .replies, .carriage].take (lineStepPlace upTo + 1)) s

end Sys2Proof.Machine
end

