-- ==== Sys2Proof/Machine/OutputLines.lean ====
section
/-! DEFINITION. The meanings of the rows that are output lines (R32, R131). -/

namespace Sys2Proof.Machine

/-- GENERATED_LINE_START: the next line of the generated frame of path `p` begins, if its time has come (R32). -/
def execGeneratedLineStart (p : Feed) (dt : Nat) (s : State) : Host.Outcome State Fault Refusal :=
  .next ((s.elapse dt).generatedLine p)

/-- OUTPUT_LINE_ASSEMBLY: the line in progress on output `p` is assembled through the step `upTo` (R131; DESIGN CHOICE,
assumption 11). -/
def execOutputLineAssembly (p : Feed) (upTo : LineStep) (s : State) : Host.Outcome State Fault Refusal :=
  .next (s.assembleTo p upTo)

end Sys2Proof.Machine
end

