-- ==== Sys2Proof/Machine/Reads.lean ====
section
/-! DEFINITION. The meanings of the READ_ENTRY rows. Each row is the arrival at the control channel of that
command, addressed to the part with a good sum; it executes at the first moment it may (R149, R151; DESIGN CHOICE, assumption 8). -/

namespace Sys2Proof.Machine

/-- READ_ENTRY_RULE (R58). -/
def execReadEntryRule (tag index : Field) (s : State) : Host.Outcome State Fault Refusal :=
  .next (s.submit (s.ownCommand [tag.toNat, 1, 1, index.toNat]))

/-- READ_ENTRY_LANE (R96, R120). -/
def execReadEntryLane (tag index : Field) (s : State) : Host.Outcome State Fault Refusal :=
  .next (s.submit (s.ownCommand [tag.toNat, 1, 2, index.toNat]))

/-- READ_ENTRY_ROUTE_SHADOW (R139). -/
def execReadEntryRouteShadow (tag index : Field) (s : State) : Host.Outcome State Fault Refusal :=
  .next (s.submit (s.ownCommand [tag.toNat, 1, 3, index.toNat]))

/-- READ_ENTRY_ROUTE_LIVE (R139). -/
def execReadEntryRouteLive (tag index : Field) (s : State) : Host.Outcome State Fault Refusal :=
  .next (s.submit (s.ownCommand [tag.toNat, 1, 4, index.toNat]))

/-- READ_ENTRY_STREAM (R71). -/
def execReadEntryStream (tag index : Field) (s : State) : Host.Outcome State Fault Refusal :=
  .next (s.submit (s.ownCommand [tag.toNat, 1, 5, index.toNat]))

/-- READ_ENTRY_PATH (R22, R112). -/
def execReadEntryPath (tag index : Field) (s : State) : Host.Outcome State Fault Refusal :=
  .next (s.submit (s.ownCommand [tag.toNat, 1, 6, index.toNat]))

/-- READ_ENTRY_PROBE (R142). -/
def execReadEntryProbe (tag index : Field) (s : State) : Host.Outcome State Fault Refusal :=
  .next (s.submit (s.ownCommand [tag.toNat, 1, 7, index.toNat]))

/-- READ_ENTRY_SETTINGS (R153). -/
def execReadEntrySettings (tag index : Field) (s : State) : Host.Outcome State Fault Refusal :=
  .next (s.submit (s.ownCommand [tag.toNat, 1, 8, index.toNat]))

end Sys2Proof.Machine
end

