-- ==== Sys2Proof/Machine/Timers.lean ====
section
/-! DEFINITION. The meanings of the rows that are timers, ticks and counts reached (chapters 2, 3 and 4). A timer's
expiry is taken only when its timer runs and its time has come; otherwise nothing expires (DESIGN CHOICE, assumption 2). -/

namespace Sys2Proof.Machine

/-- LOSS_TIMER_EXPIRY (R23, R24). -/
def execLossTimerExpiry (p : Feed) (dt : Nat) (s : State) : Host.Outcome State Fault Refusal :=
  let s1 := s.elapse dt
  if timerDue s1.paths[p].lossTimer lossTime s1.now then .next (s1.lossExpired p) else .next s1

/-- HOUSE_PULSE (R39). -/
def execHousePulse (dt : Nat) (s : State) : Host.Outcome State Fault Refusal := .next (s.elapse dt).pulse

/-- ABSENCE_TIMER_EXPIRY (R40). -/
def execAbsenceTimerExpiry (dt : Nat) (s : State) : Host.Outcome State Fault Refusal :=
  let s1 := s.elapse dt
  if s1.tick.reference = .present ∧ timerDue s1.tick.absenceTimer absenceTime s1.now then .next s1.absenceExpired
  else .next s1

/-- FREEWHEEL_TIMER_EXPIRY (R40). -/
def execFreewheelTimerExpiry (dt : Nat) (s : State) : Host.Outcome State Fault Refusal :=
  let s1 := s.elapse dt
  if s1.tick.reference = .absent ∧ timerDue s1.tick.freewheelTimer s1.tick.tickPeriod s1.now then
    .next s1.freewheelExpired
  else .next s1

/-- WATCH_EXPIRED: an ABSENCE watch that stands at its limit and is ARMED expires (R51). A tick that brings a watch to
its limit takes this step itself (DESIGN CHOICE, assumption 9). -/
def execWatchExpired (p : Feed) (e : RuleIndex) (s : State) : Host.Outcome State Fault Refusal :=
  .next (s.settleAbsence p e)

/-- TALLY_REACHED: a TALLY watch that stands at its limit reports (R53). A packet that brings a watch to its limit takes
this step itself (DESIGN CHOICE, assumption 9). -/
def execTallyReached (p : Feed) (e : RuleIndex) (s : State) : Host.Outcome State Fault Refusal :=
  .next (s.settleTally p e)

/-- SWEEP: the sweep that a tick has called for by bringing the sweep counter to A (R65, R66, R67). The tick takes this step
itself (DESIGN CHOICE, assumption 9). -/
def execSweep (s : State) : Host.Outcome State Fault Refusal := .next s.settleSweep

end Sys2Proof.Machine
end

