-- ==== Sys2Proof/Machine/Writes.lean ====
section
/-! DEFINITION. The meanings of the WRITE_ENTRY rows. Each row is the arrival at the control channel of that
command, addressed to the part with a good sum; it executes at the first moment it may (R149, R151; DESIGN CHOICE, assumption 8). -/

namespace Sys2Proof.Machine

/-- WRITE_ENTRY_RULE (R57, R54). -/
def execWriteEntryRule (tag index enabled matchField compare value joined source strip take watchMode watchLimit : Field)
    (s : State) : Host.Outcome State Fault Refusal :=
  .next (s.submit (s.ownCommand
    [tag.toNat, 2, 1, index.toNat, enabled.toNat, matchField.toNat, compare.toNat, value.toNat, joined.toNat, source.toNat, strip.toNat, take.toNat, watchMode.toNat, watchLimit.toNat]))

/-- WRITE_ENTRY_LANE (R74, R75, R76). -/
def execWriteEntryLane (tag index primary backup drain target window invertLeft invertRight autoReturn : Field)
    (s : State) : Host.Outcome State Fault Refusal :=
  .next (s.submit (s.ownCommand
    [tag.toNat, 2, 2, index.toNat, primary.toNat, backup.toNat, drain.toNat, target.toNat, window.toNat, invertLeft.toNat, invertRight.toNat, autoReturn.toNat]))

/-- WRITE_ENTRY_ROUTE_SHADOW (R123). -/
def execWriteEntryRouteShadow (tag index armed laneA laneB channelMap halve mute policy : Field)
    (s : State) : Host.Outcome State Fault Refusal :=
  .next (s.submit (s.ownCommand
    [tag.toNat, 2, 3, index.toNat, armed.toNat, laneA.toNat, laneB.toNat, channelMap.toNat, halve.toNat, mute.toNat, policy.toNat]))

/-- WRITE_ENTRY_PATH (R20, R21, R37). -/
def execWriteEntryPath (tag index mode fn fd quiet room fallback : Field)
    (s : State) : Host.Outcome State Fault Refusal :=
  .next (s.submit (s.ownCommand
    [tag.toNat, 2, 6, index.toNat, mode.toNat, fn.toNat, fd.toNat, quiet.toNat, room.toNat, fallback.toNat]))

/-- WRITE_ENTRY_SETTINGS (R153, R154). -/
def execWriteEntrySettings (tag index controlFeed replyFeed sweepInterval beaconEnabled : Field)
    (s : State) : Host.Outcome State Fault Refusal :=
  .next (s.submit (s.ownCommand
    [tag.toNat, 2, 8, index.toNat, controlFeed.toNat, replyFeed.toNat, sweepInterval.toNat, beaconEnabled.toNat]))

/-- The table code of a table without a write layout (R18). -/
def unwritableCode (t : UnwritableTable) : Nat :=
  match t with
  | .routeLive => 4
  | .stream => 5
  | .probe => 7

/-- WRITE_ENTRY_UNWRITABLE (R17). -/
def execWriteEntryUnwritable (tag : Field) (table : UnwritableTable) (rest : List Field) (s : State) :
    Host.Outcome State Fault Refusal :=
  .next (s.submit (s.ownCommand ([tag.toNat, 2, unwritableCode table] ++ rest.map BitVec.toNat)))

end Sys2Proof.Machine
end

