-- ==== Sys2Proof/Machine/Dispatch.lean ====
section
/-! DEFINITION. The one dispatch: each command of the table to its meaning. -/

namespace Sys2Proof.Machine

def exec (i : Instr) (s : State) : Host.Outcome State Fault Refusal :=
  match i with
  | .powerOnReset addressStraps feedStraps => Sys2Proof.Machine.execPowerOnReset addressStraps feedStraps s
  | .lineMarker a dt => Sys2Proof.Machine.execLineMarker a dt s
  | .frameMarker a dt => Sys2Proof.Machine.execFrameMarker a dt s
  | .pictureMark a dt => Sys2Proof.Machine.execPictureMark a dt s
  | .packetComplete a kind payload sum => Sys2Proof.Machine.execPacketComplete a kind payload sum s
  | .lossTimerExpiry p dt => Sys2Proof.Machine.execLossTimerExpiry p dt s
  | .housePulse dt => Sys2Proof.Machine.execHousePulse dt s
  | .absenceTimerExpiry dt => Sys2Proof.Machine.execAbsenceTimerExpiry dt s
  | .freewheelTimerExpiry dt => Sys2Proof.Machine.execFreewheelTimerExpiry dt s
  | .watchExpired p e => Sys2Proof.Machine.execWatchExpired p e s
  | .tallyReached p e => Sys2Proof.Machine.execTallyReached p e s
  | .sweep => Sys2Proof.Machine.execSweep s
  | .generatedLineStart p dt => Sys2Proof.Machine.execGeneratedLineStart p dt s
  | .outputLineAssembly p upTo => Sys2Proof.Machine.execOutputLineAssembly p upTo s
  | .readEntryRule tag index => Sys2Proof.Machine.execReadEntryRule tag index s
  | .readEntryLane tag index => Sys2Proof.Machine.execReadEntryLane tag index s
  | .readEntryRouteShadow tag index => Sys2Proof.Machine.execReadEntryRouteShadow tag index s
  | .readEntryRouteLive tag index => Sys2Proof.Machine.execReadEntryRouteLive tag index s
  | .readEntryStream tag index => Sys2Proof.Machine.execReadEntryStream tag index s
  | .readEntryPath tag index => Sys2Proof.Machine.execReadEntryPath tag index s
  | .readEntryProbe tag index => Sys2Proof.Machine.execReadEntryProbe tag index s
  | .readEntrySettings tag index => Sys2Proof.Machine.execReadEntrySettings tag index s
  | .writeEntryRule tag index enabled matchField compare value joined source strip take watchMode watchLimit => Sys2Proof.Machine.execWriteEntryRule tag index enabled matchField compare value joined source strip take watchMode watchLimit s
  | .writeEntryLane tag index primary backup drain target window invertLeft invertRight autoReturn => Sys2Proof.Machine.execWriteEntryLane tag index primary backup drain target window invertLeft invertRight autoReturn s
  | .writeEntryRouteShadow tag index armed laneA laneB channelMap halve mute policy => Sys2Proof.Machine.execWriteEntryRouteShadow tag index armed laneA laneB channelMap halve mute policy s
  | .writeEntryPath tag index mode fn fd quiet room fallback => Sys2Proof.Machine.execWriteEntryPath tag index mode fn fd quiet room fallback s
  | .writeEntrySettings tag index controlFeed replyFeed sweepInterval beaconEnabled => Sys2Proof.Machine.execWriteEntrySettings tag index controlFeed replyFeed sweepInterval beaconEnabled s
  | .writeEntryUnwritable tag table rest => Sys2Proof.Machine.execWriteEntryUnwritable tag table rest s
  | .swapRoutes broadcast tag feeds => Sys2Proof.Machine.execSwapRoutes broadcast tag feeds s
  | .copyLive tag feed => Sys2Proof.Machine.execCopyLive tag feed s
  | .flushLane tag lane => Sys2Proof.Machine.execFlushLane tag lane s
  | .returnPrimary tag lane => Sys2Proof.Machine.execReturnPrimary tag lane s
  | .resume tag feed => Sys2Proof.Machine.execResume tag feed s
  | .clearStreams tag => Sys2Proof.Machine.execClearStreams tag s
  | .readStatus tag cursor => Sys2Proof.Machine.execReadStatus tag cursor s
  | .clearNotice tag kind subject generation => Sys2Proof.Machine.execClearNotice tag kind subject generation s
  | .probeStart tag mode first last trigger => Sys2Proof.Machine.execProbeStart tag mode first last trigger s
  | .probeStop tag => Sys2Proof.Machine.execProbeStop tag s
  | .restart tag => Sys2Proof.Machine.execRestart tag s
  | .badCommand rest sumGood => Sys2Proof.Machine.execBadCommand rest sumGood s
  | .broadcastDiscard rest sumGood => Sys2Proof.Machine.execBroadcastDiscard rest sumGood s
  | .packetBegins a => Sys2Proof.Machine.execPacketBegins a s
  | .malformedHeader a kind span => Sys2Proof.Machine.execMalformedHeader a kind span s

end Sys2Proof.Machine
end

