-- ==== Sys2Proof/Safety.lean ====
section
/-! DEFINITION. What counts as a good state: the laws that the spec states of the whole machine, one definition each. -/

namespace Sys2Proof.Machine

/-- The law of the two queues: at most 4 commands and at most 8 replies wait (R151). -/
abbrev State.QueueLaw (s : State) : Prop := s.commandQueue.length ≤ 4 ∧ s.replyQueue.length ≤ 8

/-- The number of valid entries of the stream table. -/
def State.validEntries (s : State) : Nat := (s.streams.toList.filter Option.isSome).length

/-- The law of the stream table: the count is the number of valid entries, and no two of them have one stream (R60). -/
def State.StreamLaw (s : State) : Prop :=
  s.tableCount = s.validEntries ∧
    ∀ i j : Fin 48, i ≠ j → ∀ a b : StreamEntry, s.streams[i] = some a → s.streams[j] = some b → a.source ≠ b.source

/-- The laws of one lane: the fill's range, IDLE exactly without a primary and then empty, BACKUP only with a backup, a
backup only with a primary, and T in its range (R74, R78). -/
abbrev Lane.Law (x : Lane) : Prop :=
  x.fifo.length ≤ 2048 ∧ (x.state = .idle ↔ x.primary = none) ∧ (x.state = .idle → x.fifo = []) ∧
    (x.active = .backup → x.backup.isSome) ∧ (x.backup.isSome → x.primary.isSome) ∧ 16 ≤ x.target ∧ x.target ≤ 1984

/-- The laws of every lane. -/
def State.LaneLaw (s : State) : Prop := ∀ l : LaneId, s.lanes[l].Law

/-- The law of the route maps: every entry of feed f, live or shadow, names only lanes whose drain feed is f (R124). -/
def State.RouteLaw (s : State) : Prop :=
  ∀ f : Feed, ∀ l : LaneId, s.routes[f].names l = true → s.lanes[l].drain = f

/-- A sample in its range (00_scope.md, Sample). -/
abbrev InRange (v : Int) : Prop := -8388608 ≤ v ∧ v ≤ 8388607

/-- A set whose samples are in range. -/
abbrev SampleSet.InRange (x : SampleSet) : Prop := Machine.InRange x.left ∧ Machine.InRange x.right

/-- The law of the samples a lane holds. -/
def Lane.SampleLaw (x : Lane) : Prop :=
  (∀ y ∈ x.fifo, y.InRange) ∧ x.lastOut.InRange ∧ InRange x.holdLeft ∧ InRange x.holdRight

/-- Every sample that the lanes hold is in range. -/
def State.SampleLaw (s : State) : Prop := ∀ l : LaneId, s.lanes[l].SampleLaw

/-- The law of a feed's cadence and counters: a rate that a path record can hold, the accumulator below Fn (R101), the
phase below 16, L′ in its range (R104), given the due share of the lines begun (R105), and owed within 8 of it (06,
section 6.1). -/
def carriageLaw (x : Path) (c : Carriage) : Prop :=
  12000 ≤ x.fn ∧ x.fn ≤ 120000 ∧ (x.fd = 1000 ∨ x.fd = 1001) ∧ cadenceLength x.fn x.fd ≤ 16 ∧
    c.accumulator < x.fn ∧ c.phase < 16 ∧ 1 ≤ c.frameLines ∧ c.frameLines ≤ 2047 ∧ c.frameCount ≤ 4004 ∧
    c.given = min c.linePosition c.frameLines * c.frameCount / c.frameLines ∧ c.owed ≤ 8 + c.given

/-- The law of every feed's cadence and counters. -/
def State.CarriageLaw (s : State) : Prop := ∀ p : Feed, carriageLaw s.paths[p] s.carriage[p]

/-- The law of a path's timing: a port that has measured L is synchronised and has seen two frame markers (R3); a path
that is not in LOST has a port that has measured L (02, section 2.2); a generated frame runs only on a path with NORMAL
in force that is not in FOLLOW (R33); with BYPASS in force the output carries lines only in FOLLOW (R35). -/
def State.TimingLaw (s : State) : Prop :=
  ∀ p : Feed,
    (s.ports[p].measuredL ≠ none → s.ports[p].sync ≠ .unsynced ∧ s.ports[p].framesSeen = 2) ∧
    (s.paths[p].timing ≠ .lost → s.ports[p].measuredL ≠ none) ∧
    (s.rasters[p] ≠ none → s.paths[p].inForce = .normal ∧ s.paths[p].timing ≠ .follow) ∧
    (s.paths[p].inForce = .bypass → s.paths[p].timing ≠ .follow → s.outputs[p] = .dark)

/-- The values that the chapters give for power-on reset and RESTART alike (R2, R22, R23, R39, R59, R73, R98, R99, R113,
R141, R142, R160, R161). -/
def State.BlocksAtReset (t : State) : Prop :=
  (∀ p : Feed, t.ports[p] =
    { sync := .unsynced, lineCount := 0, framesSeen := 0, measuredL := none, reader := [], held := .nothing }) ∧
  (∀ (p : Feed) (e : RuleIndex), t.rules[p][e] =
    { enabled := false, matchField := .kind, compare := .equal, value := 0, joined := 0#16, source := e,
      strip := false, take := true, watchMode := .idle, watchLimit := 1, watchState := .armed, watchCount := 0 }) ∧
  (∀ i : Fin 48, t.streams[i] = none) ∧ t.tableCount = 0 ∧ t.sweepCounter = 0 ∧
  t.sweepReached = false ∧
  (∀ l : LaneId, t.lanes[l] =
    { primary := none, backup := none, drain := 0, target := 960, window := 48, invertLeft := false,
      invertRight := false, autoReturn := false, state := .idle, active := .primary, fifo := [], holdLeft := 0,
      holdRight := 0, lastOut := { left := 0, right := 0 }, mendTally := 0, overrunTally := 0, starveTally := 0 }) ∧
  (∀ l : LaneId, t.regulators[l] = { snapshot := 0, drops := 0, repeats := 0 }) ∧
  (∀ p : Feed, t.carriage[p] =
    { accumulator := 0, phase := 0, fresh := true, frameCount := 0, frameLines := 1, frameQuiet := 0,
      linePosition := 0, given := 0, owed := 0, shortfall := 0 }) ∧
  (∀ (p : Feed) (x : Slot),
    t.routes[p].shadow[x] =
      { armed := false, laneA := none, laneB := none, channelMap := .straight, halve := false, mute := false,
        policy := .yields } ∧
    t.routes[p].live[x] = t.routes[p].shadow[x] ∧ t.routes[p].clips[x] = 0 ∧
    t.routes[p].seenThis[x] = false ∧ t.routes[p].seenLast[x] = false) ∧
  (∀ p : Feed, t.routes[p].swapPending = false) ∧
  (∀ p : Feed, t.paths[p] =
    { requested := .bypass, inForce := .bypass, fn := 25000, fd := 1000, quiet := 0, room := 268, fallback := 1125,
      timing := .lost, resumePending := false, lossTimer := none }) ∧
  (∀ p : Feed, t.rasters[p] = none ∧ t.outputs[p] = .dark) ∧
  t.tick = { reference := .present, period := none, lastPulse := none, count := 0, absenceTimer := some t.now,
             freewheelTimer := none } ∧
  t.probe.settings = { mode := .single, first := 0, last := 0, trigger := .command } ∧ t.probe.run = .stopped ∧
  (∀ l : LaneId, t.probe.results[l] =
    { peakLeft := 0, peakRight := 0, overLeft := 0, overRight := 0, complete := false, pass := 0 }) ∧
  (∀ n : Notice, t.notice n = { raised := false, generation := 0 }) ∧ t.beaconPending = false ∧ t.commandQueue = []

/-! ### Words that statements use -/

/-- The control channel executes a command at once: no command waits, and a reply has room (R151). -/
abbrev State.Ready (s : State) : Prop := s.commandQueue = [] ∧ s.replyQueue.length < 8

/-- The state with one reply of this part appended to the reply queue (R16, R151). -/
def State.answered (tag : Field) (code : Nat) (results : List Nat) (s : State) : State :=
  { s with replyQueue := s.replyQueue ++ [{ fields := [s.deviceAddress.val, tag.toNat, code] ++ results }] }

/-- A row that is a house tick: a pulse, or the expiry of a timer that runs and is due (R39, R40). -/
def Ticks (c : Instr) (s : State) (dt : Nat) : Prop :=
  c = .housePulse dt ∨
  (c = .absenceTimerExpiry dt ∧ s.tick.reference = .present ∧
    ∃ restarted, s.tick.absenceTimer = some restarted ∧ restarted + 100000000 ≤ s.now + dt) ∨
  (c = .freewheelTimerExpiry dt ∧ s.tick.reference = .absent ∧
    ∃ restarted, s.tick.freewheelTimer = some restarted ∧ restarted + s.tick.period.getD 40000000 ≤ s.now + dt)

/-- Input port `p` has read the lead marks of a packet, and the words of packet `k` behind them are ordinary words to the
last (R1, R6; assumption 10). -/
def State.Reading (s : State) (p : Feed) (k : Packet) : Prop :=
  s.ports[p].sync = .blanking ∧ s.ports[p].reader = leadMarks ∧ s.ports[p].held = .nothing ∧
    k.payload.length ≤ 255 ∧ plainWords (packetTail k.kind k.payload k.sum) = true

/-- What an output holds after a change of the line it carries from its input; any other output stands. -/
def Output.carrying (o : Output) (f : Line → Line) : Output :=
  match o with
  | .line l => .line (if l.generated then l else f l)
  | .dark => .dark
  | .blackRun ws => .blackRun ws

/-- What becomes of an open window at an event that takes the lanes `left` out of RUNNING (R146): a window on one of them
has its running flag no, and otherwise nothing of the probe changes. -/
def WindowFollows (s t : State) (left : LaneId → Prop) : Prop :=
  (∀ (l : LaneId) (f : Feed) (w : ProbeWork), s.probe.run = .measuring l f w →
    (left l → t.probe = { s.probe with run := .measuring l f { w with running := false } }) ∧
    (¬left l → t.probe = s.probe)) ∧
  ((∀ (l : LaneId) (f : Feed) (w : ProbeWork), s.probe.run ≠ .measuring l f w) → t.probe = s.probe)

/-- Lane `l` fails over at the removal of the stream `gone` (R88, R89); `t` has the table that the check asks. -/
def LaneFailsOver (s t : State) (gone : Option Source) (l : LaneId) : Prop :=
  s.lanes[l].active = .primary ∧ gone.isSome ∧ s.lanes[l].primary = gone ∧ t.hasSource s.lanes[l].primary = false ∧
    t.hasSource s.lanes[l].backup = true

/-- Lane `l` returns at the addition of stream `x` (R90, R91); `t` has the table that the check asks. -/
def LaneReturns (s t : State) (x : Source) (l : LaneId) : Prop :=
  s.lanes[l].active = .backup ∧ s.lanes[l].primary = some x ∧
    (s.lanes[l].autoReturn = true ∨ t.hasSource s.lanes[l].backup = false)

/-- What becomes of lane `l` when the sets of a packet of stream `x` reach every lane, `n` of them before the removal of the
stream `gone` and `m` before the addition of `x` (R82, R83, R88 to R91). `t` is the state afterwards: the two checks ask its
table. -/
def LaneTaught (s t : State) (x : Source) (gone : Option Source) (learned : Prop) (sets : List CheckedSet) (n m : Nat)
    (l : LaneId) : Prop :=
  let y := s.lanes[l]
  let failover := t.notice (.laneFailover l) = s.notice (.laneFailover l)
  let overrun := t.notice (.laneOverrun l) = s.notice (.laneOverrun l)
  (LaneFailsOver s t gone l →
    t.lanes[l] = (if y.backup = some x then sets.drop n else []).foldl Lane.append (y.emptied .backup .priming) ∧
    t.notice (.laneFailover l) =
      { raised := true, generation := ((s.notice (.laneFailover l)).generation + 1) % 256 } ∧ overrun) ∧
  (learned → LaneReturns s t x l → y.backup ≠ some x →
    t.lanes[l] = (sets.drop m).foldl Lane.append (y.emptied .primary .priming) ∧ failover ∧ overrun) ∧
  (y.active = .primary ∨ y.primary ≠ some x → y.activeStream = some x →
    t.lanes[l] = (s.storeSets x l sets).lanes[l] ∧ failover ∧
    t.notice (.laneOverrun l) = (s.storeSets x l sets).notice (.laneOverrun l)) ∧
  (y.activeStream ≠ some x → ¬LaneFailsOver s t gone l → ¬(learned ∧ LaneReturns s t x l) →
    t.lanes[l] = y ∧ failover ∧ overrun)

/-- The carriage state of a feed after `n` frame starts at one rate; the geometry of each frame is free (R100). -/
def Carriage.frames (fn fd : Nat) (quiet lines : Nat → Nat) (c : Carriage) : Nat → Carriage
  | 0 => c
  | n + 1 => (c.frames fn fd quiet lines n).frameStart fn fd (quiet n) (lines n)

/-- The packets that an output line carries from its input line when no slot is armed (R132, R35, R9, R150). -/
def Line.carried (l : Line) (mode : Mode) : List Packet :=
  match mode with
  | .bypass => l.packets.map LinePacket.packet
  | .normal => l.packets.filterMap fun x =>
    match x.origin with
    | .leftCommand => some x.packet
    | .decided strip good => if strip then none else if good then some x.packet else some x.packet.spoilt

end Sys2Proof.Machine
end

