-- ==== Sys2Proof/WellFormed.lean ====
section
/-! DEFINITION. Which terms of `Instr` are commands that can happen. Most operands cannot be ill-formed, by their types;
these checks say what is left. `exec` does not test them: it has a meaning on every term. -/

namespace Sys2Proof

open Machine in
/-- Whether the words around an event hold no line marker and no frame marker: a marker is a row of its own. -/
def Arrival.noMarker (a : Arrival) : Bool :=
  !spells (fun m => m != .picture) a.before && !spells (fun m => m != .picture) a.behind

open Machine in
/-- Whether words hold no mark at all. -/
def noMark (ws : List FeedWord) : Bool := !spells (fun _ => true) ws

open Machine in
/-- Whether a command can happen as its row says.

* The words that arrive before and behind those of a row hold no marker, and the words of a packet hold no mark, which
  would cut it (R1, R10).
* A packet's span is at most 255 (01, section 1.2), so a payload has at most 255 words, 252 behind an address field, and
  81 fields behind a table code.
* A malformed header has a kind or a span above 0FFh (R6).
* A BAD_COMMAND fails the decoding of R17.
* A BROADCAST_DISCARD is not a broadcast that executes (R152). -/
def Instr.wellFormed (i : Instr) : Bool :=
  match i with
  | .lineMarker a _ => a.noMarker
  | .frameMarker a _ => a.noMarker
  | .pictureMark a _ => a.noMarker
  | .packetBegins a => a.noMarker
  | .packetComplete a kind payload sum => a.noMarker && payload.length ≤ 255 && noMark (packetTail kind payload sum)
  | .malformedHeader a kind span => a.noMarker && (0xFF#10 < kind || 0xFF#10 < span)
  | .writeEntryUnwritable _ _ rest => rest.length ≤ 81
  | .badCommand rest good =>
    rest.length ≤ 252 && (match (commandOfWords 0 rest good false).decode with | .error _ => true | .ok _ => false)
  | .broadcastDiscard rest good => rest.length ≤ 252 && (commandOfWords 15 rest good true).broadcastSwap?.isNone
  | .powerOnReset _ _ => true
  | .lossTimerExpiry _ _ => true
  | .housePulse _ => true
  | .absenceTimerExpiry _ => true
  | .freewheelTimerExpiry _ => true
  | .watchExpired _ _ => true
  | .tallyReached _ _ => true
  | .sweep => true
  | .generatedLineStart _ _ => true
  | .outputLineAssembly _ _ => true
  | .readEntryRule _ _ => true
  | .readEntryLane _ _ => true
  | .readEntryRouteShadow _ _ => true
  | .readEntryRouteLive _ _ => true
  | .readEntryStream _ _ => true
  | .readEntryPath _ _ => true
  | .readEntryProbe _ _ => true
  | .readEntrySettings _ _ => true
  | .writeEntryRule _ _ _ _ _ _ _ _ _ _ _ _ => true
  | .writeEntryLane _ _ _ _ _ _ _ _ _ _ => true
  | .writeEntryRouteShadow _ _ _ _ _ _ _ _ _ => true
  | .writeEntryPath _ _ _ _ _ _ _ _ => true
  | .writeEntrySettings _ _ _ _ _ _ => true
  | .swapRoutes _ _ _ => true
  | .copyLive _ _ => true
  | .flushLane _ _ => true
  | .returnPrimary _ _ => true
  | .resume _ _ => true
  | .clearStreams _ => true
  | .readStatus _ _ => true
  | .clearNotice _ _ _ _ => true
  | .probeStart _ _ _ _ _ => true
  | .probeStop _ => true
  | .restart _ => true

end Sys2Proof
end

