-- ==== Sys2Proof/Certificates/Slice0/Obligations.lean ====
section
/-! DEFINITION. The statements for the provers: what each command does, what holds of the shared arithmetic, and the laws
that every step keeps. Where a statement rests on a choice of the model, its docstring names the log entry. -/

section

open Sys2Proof Sys2Proof.Machine

/-! ### The step -/

/-- A step executes the command at the front of the queue with the rest of the queue left waiting; on an empty queue the
block idles (the model's choice, log entry 3). -/
def Obligations.StepRunsTheFrontCommand : Prop :=
  (∀ (s : State) (c : Instr) (rest : List Instr), s.pending = c :: rest →
     step s = exec c { s with pending := rest }) ∧
  (∀ s : State, s.pending = [] → step s = .next s)

/-- Every command answers a next state from every state, leaves the queue of waiting commands alone, and never turns
time back (time: log entry 1). -/
def Obligations.EveryCommandCompletes : Prop :=
  ∀ (c : Instr) (s : State), ∃ t, exec c s = .next t ∧ t.pending = s.pending ∧ s.now ≤ t.now

/-! ### Resets (R160, R161) -/

/-- POWER_ON_RESET (R160): what the straps give, the queues, the notices, every block at its reset values, among them the
model's own: no recognition in progress (log entry 10) and no sweep called for (log entry 9); no words written last are held
(log entry 12); and no other command moves the device address. -/
def Obligations.PowerOnResetSamplesStraps : Prop :=
  (∀ (s : State) (straps : Fin 16) (feed : Feed), ∃ t, exec (.powerOnReset straps feed) s = .next t ∧
    t.deviceAddress.val = min straps.val 14 ∧
    t.settings = { controlFeed := feed, replyFeed := feed, sweepInterval := 25, beaconEnabled := true } ∧
    t.replyQueue = [] ∧ t.BlocksAtReset ∧ ∀ p : Feed, t.written[p] = []) ∧
  (∀ (c : Instr) (s t : State), (∀ straps feed, c ≠ .powerOnReset straps feed) → exec c s = .next t →
    t.deviceAddress = s.deviceAddress)

/-- RESTART (R161; its row: log entry 8) with commands waiting behind it: they are dropped unanswered, its own reply is the
only one left, the device address and the SETTINGS entry are kept, and every block stands at its reset values, among them
the model's own: no recognition in progress (log entry 10) and no sweep called for (log entry 9). The lines in progress are
cut, and the words they had written stand, as do those of an output that was dark (R37, R131; how many: log entries 12 and
13). -/
def Obligations.RestartKeepsOnlyAddressAndSettings : Prop :=
  ∀ (s : State) (tag : Field), s.Ready → ∃ t, exec (.restart tag) s = .next t ∧
    t.deviceAddress = s.deviceAddress ∧ t.settings = s.settings ∧
    t.replyQueue = [{ fields := [s.deviceAddress.val, tag.toNat, 0] }] ∧ t.BlocksAtReset ∧
    (∀ p : Feed, t.written[p] = match s.outputs[p] with
      | .dark => s.written[p]
      | .line l => (l.words (Config.blackWords p s.now)).take (Config.wordsWritten p s.now)
      | .blackRun ws => ws ++ List.replicate (Config.blackWords p s.now) 0x040#10) ∧
    (∀ behind : List Command,
      ({ s with commandQueue := s.ownCommand [tag.toNat, 13] :: behind } : State).executeHead = t)

/-! ### Input ports (R1 to R3, R6, R10) -/

/-- The marks in the words of a feed (R1). Wherever 3FEh, 001h and a type word arrive in succession, whatever was held back
before them are ordinary words, and the three make a line marker, a frame marker, or in a blanking space a picture mark;
elsewhere a picture mark, and everywhere another type, are ordinary words, and a 3FEh in place of the type may open a mark
itself. A word that is no 3FEh, behind words of which none is held back, is ordinary. The rows of arrival are the arrival
of the words before, of the row's own words, and of the words behind (log entry 10). -/
def Obligations.MarksAreRecognisedAtEveryPosition : Prop :=
  (∀ (s u : State) (p : Feed) (type : FeedWord),
     u = forList (State.plainWord p) s.ports[p].held.words
       { s with ports := s.ports.set p { s.ports[p] with held := .nothing } } →
     (type = 0x0A5#10 → s.wordsArrive p [0x3FE#10, 0x001#10, type] = u.lineMarkerArrives p) ∧
     (type = 0x15A#10 → s.wordsArrive p [0x3FE#10, 0x001#10, type] = u.frameMarkerArrives p) ∧
     (type = 0x0C3#10 → u.ports[p].sync = .blanking →
       s.wordsArrive p [0x3FE#10, 0x001#10, type] = u.pictureMarkArrives p) ∧
     ((type = 0x0C3#10 ∧ u.ports[p].sync ≠ .blanking) ∨
         (type ≠ 0x0A5#10 ∧ type ≠ 0x15A#10 ∧ type ≠ 0x0C3#10 ∧ type ≠ 0x3FE#10) →
       s.wordsArrive p [0x3FE#10, 0x001#10, type] = forList (State.plainWord p) [0x3FE#10, 0x001#10, type] u) ∧
     (type = 0x3FE#10 → ∃ v, v = forList (State.plainWord p) [0x3FE#10, 0x001#10] u ∧
       s.wordsArrive p [0x3FE#10, 0x001#10, type] =
         { v with ports := v.ports.set p { v.ports[p] with held := .first } })) ∧
  (∀ (s : State) (p : Feed) (w : FeedWord), s.ports[p].held = .nothing → w ≠ 0x3FE#10 →
     s.wordsArrive p [w] = s.plainWord p w) ∧
  (∀ (s : State) (a : Arrival) (dt : Nat) (k : Packet) (kind span : FeedWord) (around : State → List FeedWord → State),
     (around = fun t ws => ((t.wordsArrive a.port a.before).wordsArrive a.port ws).wordsArrive a.port a.behind) →
     exec (.lineMarker a dt) s = .next (around { s with now := s.now + dt } [0x3FE#10, 0x001#10, 0x0A5#10]) ∧
     exec (.frameMarker a dt) s = .next (around { s with now := s.now + dt } [0x3FE#10, 0x001#10, 0x15A#10]) ∧
     exec (.pictureMark a dt) s = .next (around { s with now := s.now + dt } [0x3FE#10, 0x001#10, 0x0C3#10]) ∧
     exec (.packetBegins a) s = .next (around s [0x2AA#10, 0x155#10]) ∧
     exec (.malformedHeader a kind span) s = .next (around s [kind, span]) ∧
     exec (.packetComplete a k.kind k.payload k.sum) s =
       .next (around s
         ([k.kind.setWidth 10, BitVec.ofNat 10 k.payload.length] ++ k.payload ++ [k.sum])))

/-- LINE_MARKER (R2, R3, R5, R10, R23): the port, the loss timer, and on a path in FOLLOW the next output line (its index:
log entry 19), with the words of the line that it ends (black words: log entry 13); nothing else. Words that arrive before
and behind it, and words held back, are in MarksAreRecognisedAtEveryPosition. -/
def Obligations.LineMarkerBeginsALine : Prop :=
  ∀ (s : State) (p : Feed) (dt : Nat), s.ports[p].held = .nothing →
    ∃ t, exec (.lineMarker (.bare p) dt) s = .next t ∧
      t = { s with now := s.now + dt, ports := t.ports, paths := t.paths, outputs := t.outputs, written := t.written } ∧
      t.ports[p] = { s.ports[p] with
        sync := .blanking
        reader := []
        lineCount := if s.ports[p].framesSeen = 0 then s.ports[p].lineCount else min 4095 (s.ports[p].lineCount + 1) } ∧
      t.paths[p] = { s.paths[p] with lossTimer := some (s.now + dt) } ∧
      (s.paths[p].timing = .follow →
        t.outputs[p] = .line
          { index := s.outputs[p].nextIndex, frameMarker := false, generated := false, room := s.paths[p].room,
            packets := [], made := 0, replies := false, placed := [], blanking := 0, picture := none } ∧
        t.written[p] = (if s.outputs[p] = .dark then s.written[p]
          else s.outputs[p].words (Config.blackWords p (s.now + dt)))) ∧
      (s.paths[p].timing ≠ .follow → t.outputs[p] = s.outputs[p] ∧ t.written[p] = s.written[p]) ∧
      (∀ q : Feed, q ≠ p → t.ports[q] = s.ports[q] ∧ t.paths[q] = s.paths[q] ∧ t.outputs[q] = s.outputs[q] ∧
        t.written[q] = s.written[q])

/-- FRAME_MARKER at the port and in the comparison of R29, and where it is no feed frame start (R3, R23, R26, R27, R29). L
is measured, frames seen rises, and RASTER-CHANGE is raised exactly when two markers in succession delivered measured
values that differ (log entry 25). "Unmeasured" in LOST changes nothing more; the marker that delivers an L in LOST moves
the path to RECOVERED; one in RECOVERED under NORMAL without resume-pending leaves it there. -/
def Obligations.FrameMarkerMeasuresAndCompares : Prop :=
  ∀ (s : State) (p : Feed) (dt : Nat), s.ports[p].held = .nothing →
    ∃ t, exec (.frameMarker (.bare p) dt) s = .next t ∧ t.now = s.now + dt ∧
    t.ports = s.ports.set p
      { sync := .blanking
        reader := []
        held := .nothing
        lineCount := 1
        framesSeen := min 2 (s.ports[p].framesSeen + 1)
        measuredL := if s.ports[p].framesSeen = 0 then s.ports[p].measuredL else some s.ports[p].lineCount } ∧
    t.paths[p].lossTimer = some (s.now + dt) ∧
    (∀ q : Feed, q ≠ p → t.paths[q] = s.paths[q] ∧ t.outputs[q] = s.outputs[q] ∧ t.written[q] = s.written[q]) ∧
    (∀ a b : Nat, s.ports[p].measuredL = some a → t.ports[p].measuredL = some b → a ≠ b →
      t.notice (.rasterChange p) =
        { raised := true, generation := ((s.notice (.rasterChange p)).generation + 1) % 256 }) ∧
    (s.ports[p].measuredL = none ∨ s.ports[p].measuredL = t.ports[p].measuredL →
      t.notice (.rasterChange p) = s.notice (.rasterChange p)) ∧
    (∀ q : Feed, q ≠ p → t.notice (.rasterChange q) = s.notice (.rasterChange q)) ∧
    (s.ports[p].framesSeen = 0 → s.ports[p].measuredL = none → s.paths[p].timing = .lost →
      t = { s with now := s.now + dt, ports := t.ports, paths := t.paths } ∧
      t.paths[p] = { s.paths[p] with lossTimer := some (s.now + dt) }) ∧
    (s.ports[p].framesSeen ≠ 0 → s.paths[p].timing = .lost →
      t = { s with now := s.now + dt, ports := t.ports, paths := t.paths, notices := t.notices } ∧
      t.paths[p] = { s.paths[p] with timing := .recovered, lossTimer := some (s.now + dt) } ∧
      t.notice (.inputReturned p) =
        { raised := true, generation := ((s.notice (.inputReturned p)).generation + 1) % 256 } ∧
      (∀ n : Notice, n ≠ .inputReturned p → n ≠ .rasterChange p → t.notice n = s.notice n)) ∧
    (s.ports[p].framesSeen ≠ 0 → s.paths[p].timing = .recovered → s.paths[p].inForce = .normal →
      s.paths[p].resumePending = false →
      t = { s with now := s.now + dt, ports := t.ports, paths := t.paths, notices := t.notices } ∧
      t.paths[p] = { s.paths[p] with lossTimer := some (s.now + dt) } ∧
      (∀ n : Notice, n ≠ .rasterChange p → t.notice n = s.notice n))

/-- FRAME_MARKER that is a feed frame start (R27, R31, R37): in FOLLOW, and in RECOVERED under BYPASS or with
resume-pending. The mode requested comes into force, and line 0 begins behind the line that ends, or, in RECOVERED, that is
cut to the words already written (R33, R131; how many: log entries 12 and 13). The carriage state is brought to the new
frame, with CARRIAGE-SHORTFALL (R100 to R104, R109, R110), a pending swap is taken and the collision flags shift (R127,
R138), the draining lanes are regulated (R114), and the probe takes the frame start, with PROBE-DONE (R145, R147). Other
feeds keep their records, and no other notice but RASTER-CHANGE is touched. -/
def Obligations.FrameMarkerFrameStart : Prop :=
  ∀ (s : State) (p : Feed) (dt : Nat), s.ports[p].held = .nothing → s.ports[p].framesSeen ≠ 0 →
    (s.paths[p].timing = .follow ∨
      s.paths[p].timing = .recovered ∧ (s.paths[p].inForce = .bypass ∨ s.paths[p].resumePending = true)) →
    ∃ t, exec (.frameMarker (.bare p) dt) s = .next t ∧
      t = { s with
            now := s.now + dt, ports := t.ports, lanes := t.lanes, regulators := t.regulators
            carriage := t.carriage, routes := t.routes, paths := t.paths, rasters := t.rasters
            outputs := t.outputs, written := t.written, probe := t.probe, notices := t.notices } ∧
      t.paths[p] = { s.paths[p] with
        inForce := s.paths[p].requested, timing := .follow, resumePending := false
        lossTimer := some (s.now + dt) } ∧
      t.rasters[p] = none ∧
      t.outputs[p] = .line
        { index := 0, frameMarker := true, generated := false, room := s.paths[p].room, packets := [], made := 0,
          replies := false, placed := [], blanking := 0, picture := none } ∧
      (∀ l : Line, s.outputs[p] = .line l → t.written[p] =
        if s.paths[p].timing = .follow then l.words (Config.blackWords p (s.now + dt))
        else (l.words (Config.blackWords p (s.now + dt))).take (Config.wordsWritten p (s.now + dt))) ∧
      (∀ ws : List FeedWord, s.outputs[p] = .blackRun ws →
        t.written[p] = ws ++ List.replicate (Config.blackWords p (s.now + dt)) 0x040#10) ∧
      (s.outputs[p] = .dark → t.written[p] = s.written[p]) ∧
      t.carriage[p] =
        s.carriage[p].frameStart s.paths[p].fn s.paths[p].fd s.paths[p].quiet s.ports[p].lineCount ∧
      t.routes[p].live = (if s.routes[p].swapPending then s.routes[p].shadow else s.routes[p].live) ∧
      t.routes[p].shadow = s.routes[p].shadow ∧ t.routes[p].swapPending = false ∧
      t.routes[p].clips = s.routes[p].clips ∧ t.routes[p].seenLast = s.routes[p].seenThis ∧
      (∀ x : Slot, t.routes[p].seenThis[x] = false) ∧
      (∀ l : LaneId, s.lanes[l].drain = p →
        t.lanes[l] = s.lanes[l].corrected ∧ t.regulators[l] = s.regulators[l].captured s.lanes[l]) ∧
      (∀ l : LaneId, s.lanes[l].drain ≠ p → t.lanes[l] = s.lanes[l] ∧ t.regulators[l] = s.regulators[l]) ∧
      t.probe = (s.probeFrameStart p).probe ∧
      t.notice .probeDone = (s.probeFrameStart p).notice .probeDone ∧
      t.notice (.carriageShortfall p) =
        (s.carriageFrameStart p s.ports[p].lineCount).notice (.carriageShortfall p) ∧
      (∀ n : Notice, n ≠ .rasterChange p → n ≠ .carriageShortfall p → n ≠ .probeDone → t.notice n = s.notice n) ∧
      (∀ q : Feed, q ≠ p → t.paths[q] = s.paths[q] ∧ t.rasters[q] = s.rasters[q] ∧ t.outputs[q] = s.outputs[q] ∧
        t.written[q] = s.written[q] ∧ t.carriage[q] = s.carriage[q] ∧ t.routes[q] = s.routes[q])

/-- PICTURE_MARK (R1, R2, R10) in BLANKING begins the picture, cuts a packet being read, and begins the picture of the
carried line; in PICTURE it is three picture words, and in UNSYNCED nothing. PACKET_BEGINS (R6, R10): in BLANKING the reader
takes up the lead marks from idle or from a lone 2AAh, and inside a payload they are its words; in UNSYNCED they change
nothing and in PICTURE they are picture words (what a row does outside its event: log entry 23). MALFORMED_HEADER (R6)
returns the reader to idle. The words count into the carried line's blanking space (R5); nothing else changes. The words
arrive behind words of which none is held back (log entry 10). -/
def Obligations.PictureMarksAndPacketReader : Prop :=
  ∀ (s : State) (p : Feed) (dt : Nat) (reads : Nat → List FeedWord → State) (shows : State → List FeedWord → State),
    s.ports[p].held = .nothing →
    (reads = fun n r => { s with
      ports := s.ports.set p { s.ports[p] with reader := r }
      outputs := s.outputs.set p (s.outputs[p].carrying fun l => { l with blanking := l.blanking + n }) }) →
    (shows = fun t ws => { t with
      outputs := t.outputs.set p
        (t.outputs[p].carrying fun l => { l with picture := l.picture.map fun old => old ++ ws }) }) →
    (s.ports[p].sync = .blanking → exec (.pictureMark (.bare p) dt) s = .next { s with
      now := s.now + dt
      ports := s.ports.set p { s.ports[p] with sync := .picture, reader := [] }
      outputs := s.outputs.set p (s.outputs[p].carrying fun l => { l with picture := some [] }) }) ∧
    (s.ports[p].sync = .picture →
      exec (.pictureMark (.bare p) dt) s =
        .next (shows { s with now := s.now + dt } [0x3FE#10, 0x001#10, 0x0C3#10]) ∧
      exec (.packetBegins (.bare p)) s = .next (shows s [0x2AA#10, 0x155#10])) ∧
    (s.ports[p].sync = .unsynced →
      exec (.pictureMark (.bare p) dt) s = .next { s with now := s.now + dt } ∧
      exec (.packetBegins (.bare p)) s = .next s) ∧
    (s.ports[p].sync = .blanking → s.ports[p].reader = [] ∨ s.ports[p].reader = [0x2AA#10] →
      exec (.packetBegins (.bare p)) s = .next (reads 2 [0x2AA#10, 0x155#10])) ∧
    (∀ (a b kind span : FeedWord) (payload : List FeedWord), s.ports[p].sync = .blanking →
      s.ports[p].reader = a :: b :: kind :: span :: payload → payload.length + 2 ≤ span.toNat →
      exec (.packetBegins (.bare p)) s = .next (reads 2 (s.ports[p].reader ++ [0x2AA#10, 0x155#10]))) ∧
    (∀ kind span : FeedWord, s.ports[p].sync = .blanking → s.ports[p].reader = [0x2AA#10, 0x155#10] →
      255 < kind.toNat ∨ 255 < span.toNat → plainWords [kind, span] = true →
      exec (.malformedHeader (.bare p) kind span) s = .next (reads 2 []))

/-- The packet reader, word by word (R6, R10): what an ordinary blanking word does to each of its states. A 2AAh waits for a
155h at once behind it; then come the kind and the span word, of which neither may exceed 0FFh, as many payload words as
the span says, and the sum word, with which the packet arrives and the reader is idle. So PACKET_COMPLETE is the arrival of
its packet, and ordinary words behind it follow. A packet arrives at the control channel or at the classifier. -/
def Obligations.PacketsAreReadWordByWord : Prop :=
  (∀ (s : State) (p : Feed) (w a b kind span : FeedWord) (payload : List FeedWord) (reads : List FeedWord → State),
     s.ports[p].sync = .blanking → s.ports[p].held = .nothing → w ≠ 0x3FE#10 →
     (reads = fun r => { s with
       ports := s.ports.set p { s.ports[p] with reader := r }
       outputs := s.outputs.set p (s.outputs[p].carrying fun l => { l with blanking := l.blanking + 1 }) }) →
     (s.ports[p].reader = [] → s.wordsArrive p [w] = reads (if w = 0x2AA#10 then [w] else [])) ∧
     (s.ports[p].reader = [a] →
       s.wordsArrive p [w] = reads (if w = 0x155#10 then [a, w] else if w = 0x2AA#10 then [w] else [])) ∧
     (s.ports[p].reader = [a, b] → s.wordsArrive p [w] = reads [a, b, w]) ∧
     (s.ports[p].reader = [a, b, kind] →
       s.wordsArrive p [w] = reads (if 255 < kind.toNat ∨ 255 < w.toNat then [] else [a, b, kind, w])) ∧
     (s.ports[p].reader = a :: b :: kind :: span :: payload →
       (payload.length < span.toNat → s.wordsArrive p [w] = reads (s.ports[p].reader ++ [w])) ∧
       (span.toNat ≤ payload.length →
         s.wordsArrive p [w] = (reads []).packetArrives p { kind := kind.setWidth 8, payload := payload, sum := w }))) ∧
  (∀ (s v : State) (p : Feed) (k : Packet) (behind : List FeedWord), s.ports[p].sync = .blanking →
     s.ports[p].reader = [0x2AA#10, 0x155#10] → s.ports[p].held = .nothing → k.payload.length ≤ 255 →
     plainWords ([k.kind.setWidth 10, BitVec.ofNat 10 k.payload.length] ++ k.payload ++ [k.sum] ++ behind) = true →
     v = { s with
       ports := s.ports.set p { s.ports[p] with reader := [] }
       outputs := s.outputs.set p
         (s.outputs[p].carrying fun l => { l with blanking := l.blanking + k.payload.length + 3 }) } →
     exec (.packetComplete { port := p, before := [], behind := behind } k.kind k.payload k.sum) s =
       .next (forList (State.plainWord p) behind (v.packetArrives p k)) ∧
     (v.addressed p k = true → v.packetArrives p k = v.commandArrives p k) ∧
     (v.addressed p k = false → v.packetArrives p k = v.actOnDecision p k (decide? v.rules[p] k)))

/-- The words of a line (R5, R32): the marker; the packets placed, whole and one behind another; idle words up to the length
of the blanking space, none when the packets are longer; and, on a line with a picture, the picture mark and the picture,
which on a generated line are black words (how many: log entry 13). A carried line takes its blanking length and its
picture from the words of the input: idle words lengthen the blanking space by one each, picture words stand in the
picture word for word, and an UNSYNCED port discards every word (R2). -/
def Obligations.LinesAreWrittenWordForWord : Prop :=
  (∀ (l : Line) (black : Nat) (marker blanking : List FeedWord),
     marker = (if l.frameMarker then [0x3FE#10, 0x001#10, 0x15A#10] else [0x3FE#10, 0x001#10, 0x0A5#10]) →
     blanking = (l.placed.flatMap fun k =>
       [0x2AA#10, 0x155#10, k.kind.setWidth 10, BitVec.ofNat 10 k.payload.length] ++ k.payload ++ [k.sum]) →
     (l.picture = none →
       l.words black = marker ++ blanking ++ List.replicate (l.blanking - (l.placed.map Packet.size).sum) 0x080#10) ∧
     (∀ picture : List FeedWord, l.generated = false → l.picture = some picture →
       l.words black = marker ++ blanking ++ List.replicate (l.blanking - (l.placed.map Packet.size).sum) 0x080#10 ++
         [0x3FE#10, 0x001#10, 0x0C3#10] ++ picture) ∧
     (l.generated = true → l.picture = some [] →
       l.words black = marker ++ blanking ++ List.replicate (l.blanking - (l.placed.map Packet.size).sum) 0x080#10 ++
         [0x3FE#10, 0x001#10, 0x0C3#10] ++ List.replicate black 0x040#10)) ∧
  (∀ (s : State) (p : Feed) (l : Line) (ws : List FeedWord), s.ports[p].held = .nothing → s.outputs[p] = .line l →
     l.generated = false →
     (s.ports[p].sync = .blanking → s.ports[p].reader = [] → (∀ w ∈ ws, w ≠ 0x3FE#10 ∧ w ≠ 0x2AA#10) →
       s.wordsArrive p ws =
         { s with outputs := s.outputs.set p (.line { l with blanking := l.blanking + ws.length }) }) ∧
     (∀ picture : List FeedWord, s.ports[p].sync = .picture → l.picture = some picture → plainWords ws = true →
       s.wordsArrive p ws =
         { s with outputs := s.outputs.set p (.line { l with picture := some (picture ++ ws) }) })) ∧
  (∀ (s : State) (p : Feed) (ws : List FeedWord), s.ports[p].held = .nothing → s.ports[p].sync = .unsynced →
     plainWords ws = true → s.wordsArrive p ws = s)

/-! ### Decisions and packets (chapters 3 and 4) -/

/-- The decision of a packet (R43 to R45): by the first entry that holds, with the strip and take of its action source, and
by default when none holds. An entry holds when it is enabled, its own comparison is true, and so is that of every other
entry it joins. KIND and SPAN always compare; SLOT compares only for a CARRIAGE packet with a payload, by the remainder of
the head word by 8, and is false under both senses otherwise. -/
def Obligations.FirstHoldingRuleDecides : Prop :=
  (∀ (table : Vector RuleEntry 16) (k : Packet),
     (∀ i : RuleIndex, ruleHolds table k i = true ↔
       table[i].enabled = true ∧ table[i].ownComparison k = true ∧
         ∀ j : RuleIndex, table[i].joined.getLsbD j.val = true → j ≠ i → table[j].ownComparison k = true) ∧
     (∀ i : RuleIndex, ruleHolds table k i = true → (∀ j : RuleIndex, j < i → ruleHolds table k j = false) →
       decide? table k =
         { decider := some i, action := some table[i].source, strip := table[table[i].source].strip
           take := table[table[i].source].take }) ∧
     ((∀ i : RuleIndex, ruleHolds table k i = false) →
       decide? table k = { decider := none, action := none, strip := false, take := true })) ∧
  (∀ (e : RuleEntry) (k : Packet),
     (e.matchField = .kind → e.ownComparison k = (decide (k.kind.toNat = e.value) == decide (e.compare = .equal))) ∧
     (e.matchField = .span →
       e.ownComparison k = (decide (k.payload.length = e.value) == decide (e.compare = .equal))) ∧
     (∀ (head : FeedWord) (rest : List FeedWord), e.matchField = .slot → k.kind = 0x60#8 → k.payload = head :: rest →
       e.ownComparison k = (decide (head.toNat % 8 = e.value) == decide (e.compare = .equal))) ∧
     (e.matchField = .slot → k.kind ≠ 0x60#8 ∨ k.payload = [] → e.ownComparison k = false))

/-- PACKET_COMPLETE of every packet that is decided (R42, R46, R48, R50, R52, R53): the reader is idle, the packet stands
last among those of the carried line, and the watch of its action entry is reached. Seen-this-frame of its slot becomes yes
for a passed CARRIAGE packet with a good sum on a path in FOLLOW (R138). A packet that is no CARRIAGE packet, has a bad sum
or is decided take no reaches neither the stream table nor a lane. -/
def Obligations.PacketCompleteIsDecided : Prop :=
  ∀ (s : State) (p : Feed) (k : Packet), s.Reading p k → s.addressed p k = false →
    ∃ t, exec (.packetComplete (.bare p) k.kind k.payload k.sum) s = .next t ∧
      t = { s with
            freeCount := t.freeCount, ports := t.ports, rules := t.rules, streams := t.streams
            tableCount := t.tableCount, lanes := t.lanes, routes := t.routes, outputs := t.outputs
            probe := t.probe, notices := t.notices } ∧
      t.ports = s.ports.set p { s.ports[p] with reader := [] } ∧
      t.outputs = s.outputs.set p (s.outputs[p].carrying fun l => { l with
        blanking := l.blanking + k.payload.length + 3
        packets := l.packets ++ [{ packet := k, origin := .decided (decide? s.rules[p] k).strip k.good }] }) ∧
      (∀ (q : Feed) (x : Slot), t.routes[q] = { s.routes[q] with seenThis := t.routes[q].seenThis } ∧
        t.routes[q].seenThis[x] = (s.routes[q].seenThis[x] ||
          (q == p && k.kind == 0x60#8 && k.good && !(decide? s.rules[p] k).strip && s.paths[p].timing == .follow &&
            (k.payload.head?.map fun head => head.toNat % 8) == some x.val))) ∧
      (∀ (q : Feed) (d : RuleIndex), q ≠ p ∨ (decide? s.rules[p] k).action ≠ some d →
        t.rules[q][d] = s.rules[q][d] ∧ t.notice (.tallyReached q d) = s.notice (.tallyReached q d)) ∧
      (∀ e : RuleIndex, (decide? s.rules[p] k).action = some e →
        (s.rules[p][e].watchMode = .idle →
          t.rules[p][e] = s.rules[p][e] ∧ t.notice (.tallyReached p e) = s.notice (.tallyReached p e)) ∧
        (s.rules[p][e].watchMode = .absence →
          t.rules[p][e] = { s.rules[p][e] with watchCount := 0, watchState := .armed } ∧
          t.notice (.tallyReached p e) = s.notice (.tallyReached p e)) ∧
        (s.rules[p][e].watchMode = .tally → s.rules[p][e].watchCount + 1 ≠ s.rules[p][e].watchLimit →
          t.rules[p][e] = { s.rules[p][e] with watchCount := s.rules[p][e].watchCount + 1 } ∧
          t.notice (.tallyReached p e) = s.notice (.tallyReached p e)) ∧
        (s.rules[p][e].watchMode = .tally → s.rules[p][e].watchCount + 1 = s.rules[p][e].watchLimit →
          t.rules[p][e] = { s.rules[p][e] with watchCount := 0 } ∧
          t.notice (.tallyReached p e) =
            { raised := true, generation := ((s.notice (.tallyReached p e)).generation + 1) % 256 })) ∧
      (k.kind ≠ 0x60#8 ∨ k.good = false ∨ (decide? s.rules[p] k).take = false →
        t = { s with
              ports := t.ports, rules := t.rules, routes := t.routes, outputs := t.outputs, notices := t.notices } ∧
        (∀ n : Notice, (∀ (q : Feed) (d : RuleIndex), n ≠ .tallyReached q d) → t.notice n = s.notice n))

/-- PACKET_COMPLETE of a taken CARRIAGE packet whose stream the table knows (R47, R61, R80, R82): its entry is refreshed
and no other changes, and every lane on the stream appends the packet's sets in order, or drops with LANE-OVERRUN what finds
it full; other lanes stand. What becomes of the reader, the line, the watch and the collision flag is in
PacketCompleteIsDecided; the rest of the part stands. -/
def Obligations.TakenPacketRefreshesAndFeedsLanes : Prop :=
  ∀ (s : State) (p : Feed) (k : Packet) (c : CarriagePayload) (i : Fin 48) (e : StreamEntry),
    s.Reading p k → k.kind = 0x60#8 → k.good = true →
    (decide? s.rules[p] k).take = true → readCarriage k.payload = some c → s.StreamLaw →
    s.streams[i] = some e → e.source = { feed := p, slot := c.slot } →
    ∃ t, exec (.packetComplete (.bare p) k.kind k.payload k.sum) s = .next t ∧
      t = { s with
            ports := t.ports, rules := t.rules, streams := t.streams, lanes := t.lanes
            routes := t.routes, outputs := t.outputs, notices := t.notices } ∧
      t.streams = s.streams.set i (some { e with
        seen := true, age := 0, phase := c.phase, packets := min 65535 (e.packets + 1)
        mends := min 65535 (e.mends + failingSamples c.sets) }) ∧
      (∀ l : LaneId, s.lanes[l].activeStream ≠ some e.source →
        t.lanes[l] = s.lanes[l] ∧ t.notice (.laneOverrun l) = s.notice (.laneOverrun l)) ∧
      (∀ l : LaneId, s.lanes[l].activeStream = some e.source →
        t.lanes[l] = (s.storeSets e.source l c.sets).lanes[l] ∧
        t.notice (.laneOverrun l) = (s.storeSets e.source l c.sets).notice (.laneOverrun l)) ∧
      (∀ l : LaneId, s.lanes[l].activeStream = some e.source → s.lanes[l].fifo.length + c.sets.length ≤ 2048 →
        t.lanes[l] = c.sets.foldl Lane.append s.lanes[l] ∧ t.notice (.laneOverrun l) = s.notice (.laneOverrun l)) ∧
      (∀ n : Notice, (∀ (q : Feed) (d : RuleIndex), n ≠ .tallyReached q d) → (∀ l : LaneId, n ≠ .laneOverrun l) →
        t.notice n = s.notice n)

/-- PACKET_COMPLETE of a taken CARRIAGE packet of a stream that the table does not know (R62 to R64): learned into the
lowest free entry, or into the lowest entry of age 3, or not at all with STREAM-TABLE-FULL. Its sets reach the lanes (R83)
around the removal of the stream replaced and the addition, split alike for every lane (how many before each event: log
entry 5): a lane on the removed stream fails over to a valid backup (R88, R89), a lane on its backup returns to the stream
added under its conditions (R90, R91), a lane on the stream takes every set (R82), and the others stand. The running flag
of a window open on a lane that fails over or returns becomes no, and nothing else of the probe changes (R146). The rest of
the part is in PacketCompleteIsDecided. -/
def Obligations.TakenPacketTeachesTheTable : Prop :=
  ∀ (s : State) (p : Feed) (k : Packet) (c : CarriagePayload) (x : Source),
    s.Reading p k → k.kind = 0x60#8 → k.good = true →
    (decide? s.rules[p] k).take = true → readCarriage k.payload = some c → x = { feed := p, slot := c.slot } →
    (∀ (i : Fin 48) (e : StreamEntry), s.streams[i] = some e → e.source ≠ x) →
    ∃ (t : State) (n m : Nat), exec (.packetComplete (.bare p) k.kind k.payload k.sum) s = .next t ∧
      n ≤ m ∧ m ≤ c.sets.length ∧
      t = { s with
            freeCount := t.freeCount, ports := t.ports, rules := t.rules, streams := t.streams
            tableCount := t.tableCount, lanes := t.lanes, routes := t.routes, outputs := t.outputs
            probe := t.probe, notices := t.notices } ∧
      (∀ i : Fin 48, s.streams[i] = none → (∀ j : Fin 48, j < i → s.streams[j] ≠ none) →
        t.streams = s.streams.set i (some
          { source := x, age := 0, seen := true, phase := c.phase, packets := 1, mends := failingSamples c.sets }) ∧
        t.tableCount = s.tableCount + 1 ∧ t.notice .streamTableFull = s.notice .streamTableFull ∧
        (∀ l : LaneId, LaneTaught s t x none True c.sets n m l) ∧
        WindowFollows s t fun l => LaneReturns s t x l) ∧
      (∀ (i : Fin 48) (old : StreamEntry), (∀ j : Fin 48, s.streams[j] ≠ none) → s.streams[i] = some old →
        old.age = 3 → (∀ (j : Fin 48) (e : StreamEntry), j < i → s.streams[j] = some e → e.age ≠ 3) →
        t.streams = s.streams.set i (some
          { source := x, age := 0, seen := true, phase := c.phase, packets := 1, mends := failingSamples c.sets }) ∧
        t.tableCount = s.tableCount ∧ t.notice .streamTableFull = s.notice .streamTableFull ∧
        (∀ l : LaneId, LaneTaught s t x (some old.source) True c.sets n m l) ∧
        WindowFollows s t fun l => LaneFailsOver s t (some old.source) l ∨ LaneReturns s t x l) ∧
      ((∀ j : Fin 48, ∃ e, s.streams[j] = some e ∧ e.age ≠ 3) →
        t.streams = s.streams ∧ t.tableCount = s.tableCount ∧
        t.notice .streamTableFull =
          { raised := true, generation := ((s.notice .streamTableFull).generation + 1) % 256 } ∧
        (∀ l : LaneId, LaneTaught s t x none False c.sets n m l) ∧ t.probe = s.probe) ∧
      (∀ q : Notice, (∀ (f : Feed) (d : RuleIndex), q ≠ .tallyReached f d) → (∀ l : LaneId, q ≠ .laneOverrun l) →
        (∀ l : LaneId, q ≠ .laneFailover l) → q ≠ .streamTableFull → t.notice q = s.notice q)

/-- PACKET_COMPLETE of a COMMAND packet addressed to the part (R149 to R152): the three lines of the table of R149, the
packet being left on the line or removed from it. While the commands queued before it wait it is queued, or lost with
COMMAND-OVERRUN; with none waiting it executes at its completion, answered unless it is a broadcast, and a broadcast changes
nothing but the swaps that it arms. Whatever waits, it does what the row of a command with its fields does (log entry 8).
`u` is the state with the packet read. -/
def Obligations.CommandPacketIsTaken : Prop :=
  ∀ (s u : State) (p : Feed) (k : Packet) (address : Nat) (c : Command),
    s.Reading p k → s.settings.controlFeed = p → k.kind = 0x61#8 →
    (readFields k.payload).head? = some address → address = s.deviceAddress.val ∨ address = 15 →
    c = { fields := readFields k.payload, ragged := decide (k.payload.length % 3 ≠ 0), sumGood := k.good
          broadcast := decide (address = 15) } →
    u = { s with
      ports := s.ports.set p { s.ports[p] with reader := [] }
      outputs := s.outputs.set p (s.outputs[p].carrying fun l => { l with
        blanking := l.blanking + k.payload.length + 3
        packets := l.packets ++
          if address = 15 ∨ 4 ≤ s.commandQueue.length then [{ packet := k, origin := .leftCommand }] else [] }) } →
    (∀ (head : Command) (rest : List Command), s.commandQueue = head :: rest → head.broadcast = false →
      8 ≤ s.replyQueue.length →
      (s.commandQueue.length < 4 →
        exec (.packetComplete (.bare p) k.kind k.payload k.sum) s =
          .next { u with commandQueue := s.commandQueue ++ [c] }) ∧
      (4 ≤ s.commandQueue.length →
        ∃ t, exec (.packetComplete (.bare p) k.kind k.payload k.sum) s = .next t ∧
          t = { u with notices := t.notices } ∧
          t.notice .commandOverrun =
            { raised := true, generation := ((s.notice .commandOverrun).generation + 1) % 256 } ∧
          (∀ n : Notice, n ≠ .commandOverrun → t.notice n = s.notice n))) ∧
    (s.commandQueue = [] → address ≠ 15 → s.replyQueue.length < 8 →
      exec (.packetComplete (.bare p) k.kind k.payload k.sum) s =
        .next { (u.judge c).state with
          replyQueue := (u.judge c).state.replyQueue ++
            [{ fields := [s.deviceAddress.val, c.tag, (u.judge c).code.code] ++ (u.judge c).results }] }) ∧
    (s.commandQueue = [] → address ≠ 15 → 8 ≤ s.replyQueue.length →
      exec (.packetComplete (.bare p) k.kind k.payload k.sum) s = .next { u with commandQueue := [c] }) ∧
    (s.commandQueue = [] → address = 15 →
      (∀ (tag feeds : Nat) (armed : Vector Route 8), c.sumGood = true → c.ragged = false →
        c.fields = [15, tag, 3, feeds] → feeds ≤ 255 →
        (∀ q : Feed, armed[q] = if feeds.testBit q.val then { s.routes[q] with swapPending := true }
          else s.routes[q]) →
        exec (.packetComplete (.bare p) k.kind k.payload k.sum) s = .next { u with routes := armed }) ∧
      ((∀ tag feeds : Nat, feeds ≤ 255 →
          ¬(c.sumGood = true ∧ c.ragged = false ∧ c.fields = [15, tag, 3, feeds])) →
        exec (.packetComplete (.bare p) k.kind k.payload k.sum) s = .next u)) ∧
    (∀ (row : Instr) (fields : List Nat),
      (∀ v : State, exec row v = .next (v.submit (v.ownCommand fields))) → address = s.deviceAddress.val →
      c.sumGood = true → c.ragged = false → c.fields = address :: fields →
      exec (.packetComplete (.bare p) k.kind k.payload k.sum) s = exec row u)

/-! ### Loss of feed (R23 to R25, R68) -/

/-- LOSS_TIMER_EXPIRY where no loss is entered (R23, R24): a timer that is stopped or not yet due lets time pass (log
entry 2), and one that expires in LOST returns the port to UNSYNCED and does nothing else (R2; the line count of 0, as in
the table under R3: log entry 24; words held back stay so: log entry 10). -/
def Obligations.LossTimerOutsideLoss : Prop :=
  ∀ (s : State) (p : Feed) (dt : Nat),
    (s.paths[p].lossTimer = none → exec (.lossTimerExpiry p dt) s = .next { s with now := s.now + dt }) ∧
    (∀ restarted : Nat, s.paths[p].lossTimer = some restarted → s.now + dt < restarted + 1000000 →
      exec (.lossTimerExpiry p dt) s = .next { s with now := s.now + dt }) ∧
    (∀ restarted : Nat, s.paths[p].lossTimer = some restarted → restarted + 1000000 ≤ s.now + dt → s.paths[p].timing = .lost →
      exec (.lossTimerExpiry p dt) s = .next { s with
        now := s.now + dt
        ports := s.ports.set p
          { sync := .unsynced, lineCount := 0, framesSeen := 0, measuredL := none, reader := []
            held := s.ports[p].held }
        paths := s.paths.set p { s.paths[p] with lossTimer := none } })

/-- LOSS_TIMER_EXPIRY that enters LOST (R2, R25, R33, R68, R131, R138): the path, the port (its line count of 0: log entry
24), the table, INPUT-LOST and the collision flags. Under BYPASS the output stops at once, and the words it had written
stand; under NORMAL a line carried in FOLLOW keeps its written words, goes to its picture mark if it had not reached it, and
runs on in black, and a generated line goes on (how many words: log entries 12 and 13). A recognition of R1 in progress goes
on (log entry 10). The removals turn to its backup each lane on a removed primary whose backup stays (R88, R89), with the
running flag of a window open on it (R146), leaving the others; no other notice is touched. -/
def Obligations.LossOfFeedRemovesItsStreams : Prop :=
  ∀ (s : State) (p : Feed) (dt restarted : Nat), s.paths[p].lossTimer = some restarted → restarted + 1000000 ≤ s.now + dt →
    s.paths[p].timing ≠ .lost →
    ∃ t, exec (.lossTimerExpiry p dt) s = .next t ∧
      t = { s with
            now := s.now + dt, ports := t.ports, streams := t.streams, tableCount := t.tableCount, lanes := t.lanes
            routes := t.routes, paths := t.paths, outputs := t.outputs, written := t.written, probe := t.probe
            notices := t.notices } ∧
      t.paths = s.paths.set p { s.paths[p] with timing := .lost, resumePending := false, lossTimer := none } ∧
      t.ports = s.ports.set p
        { sync := .unsynced, lineCount := 0, framesSeen := 0, measuredL := none, reader := []
          held := s.ports[p].held } ∧
      (∀ i : Fin 48, t.streams[i] = s.streams[i].filter fun e => e.source.feed != p) ∧
      t.tableCount = s.tableCount - ((s.streams.toList.filterMap id).filter fun e => e.source.feed == p).length ∧
      t.notice (.inputLost p) =
        { raised := true, generation := ((s.notice (.inputLost p)).generation + 1) % 256 } ∧
      (∀ x : Slot, t.routes[p].seenThis[x] = false ∧ t.routes[p].seenLast[x] = false) ∧
      t.routes[p].live = s.routes[p].live ∧ t.routes[p].shadow = s.routes[p].shadow ∧
      t.routes[p].clips = s.routes[p].clips ∧ t.routes[p].swapPending = s.routes[p].swapPending ∧
      (∀ q : Feed, q ≠ p → t.routes[q] = s.routes[q] ∧ t.outputs[q] = s.outputs[q] ∧ t.written[q] = s.written[q]) ∧
      (s.paths[p].inForce = .bypass → t.outputs[p] = .dark ∧
        (s.outputs[p] = .dark → t.written = s.written) ∧
        (∀ l : Line, s.outputs[p] = .line l → t.written[p] =
          (l.words (Config.blackWords p (s.now + dt))).take (Config.wordsWritten p (s.now + dt)))) ∧
      (s.paths[p].inForce = .normal → t.written = s.written) ∧
      (s.paths[p].inForce = .normal → s.paths[p].timing = .recovered → t.outputs = s.outputs) ∧
      (∀ l : Line, s.paths[p].inForce = .normal → s.paths[p].timing = .follow → s.outputs[p] = .line l →
        t.outputs[p] = .blackRun
          (if l.picture.isSome ∧ l.openingWords.length + 3 ≤ Config.wordsWritten p (s.now + dt) then
            (l.words 0).take (Config.wordsWritten p (s.now + dt))
          else l.openingWords.take (Config.wordsWritten p (s.now + dt)) ++ [0x3FE#10, 0x001#10, 0x0C3#10])) ∧
      (∀ (l : LaneId) (x y : Source), s.lanes[l].active = .primary → s.lanes[l].primary = some x →
        s.lanes[l].backup = some y → x.feed = p → s.hasStream x = true → y.feed ≠ p → s.hasStream y = true →
        t.lanes[l] = s.lanes[l].emptied .backup .priming ∧
        t.notice (.laneFailover l) =
          { raised := true, generation := ((s.notice (.laneFailover l)).generation + 1) % 256 }) ∧
      (∀ l : LaneId,
        (s.lanes[l].active = .backup ∨
          (∀ x, s.lanes[l].primary = some x → x.feed ≠ p ∨ s.hasStream x = false) ∨
          (∀ y, s.lanes[l].backup = some y → y.feed = p ∨ s.hasStream y = false)) →
        t.lanes[l] = s.lanes[l] ∧ t.notice (.laneFailover l) = s.notice (.laneFailover l)) ∧
      (WindowFollows s t fun l => s.lanes[l].active = .primary ∧ ∃ x y : Source, s.lanes[l].primary = some x ∧
        s.lanes[l].backup = some y ∧ x.feed = p ∧ s.hasStream x = true ∧ y.feed ≠ p ∧ s.hasStream y = true) ∧
      (∀ n : Notice, n ≠ .inputLost p → (∀ l : LaneId, n ≠ .laneFailover l) → t.notice n = s.notice n)

/-! ### House ticks (chapter 2, section 2.6) -/

/-- HOUSE_PULSE at the tick generator (R39): the measured period, the reference state, the count, the timers and
HOUSE-RETURNED. And every tick, of a pulse, of the absence timer or of the freewheel timer (R39, R40, R159): the count rises,
beacon-pending becomes yes where the beacon is enabled, and no tick touches the ports, the settings or the queues. -/
def Obligations.HousePulseTicks : Prop :=
  (∀ (s : State) (dt : Nat), ∃ t, exec (.housePulse dt) s = .next t ∧
    (s.tick.reference = .present →
      t.tick = { s.tick with
        count := (s.tick.count + 1) % 256
        period := if s.tick.lastPulse.isSome then s.tick.lastPulse.map fun i => s.now + dt - i else s.tick.period
        lastPulse := some (s.now + dt)
        absenceTimer := some (s.now + dt) } ∧
      t.notice .houseReturned = s.notice .houseReturned) ∧
    (s.tick.reference = .absent →
      t.tick = { s.tick with
        reference := .present
        count := (s.tick.count + 1) % 256
        lastPulse := some (s.now + dt)
        absenceTimer := some (s.now + dt)
        freewheelTimer := none } ∧
      t.notice .houseReturned =
        { raised := true, generation := ((s.notice .houseReturned).generation + 1) % 256 })) ∧
  (∀ (c : Instr) (s : State) (dt : Nat), Ticks c s dt → ∃ t, exec c s = .next t ∧
    t.now = s.now + dt ∧ t.ports = s.ports ∧ t.deviceAddress = s.deviceAddress ∧ t.settings = s.settings ∧
    t.commandQueue = s.commandQueue ∧ t.replyQueue = s.replyQueue ∧ t.tick.count = (s.tick.count + 1) % 256 ∧
    t.beaconPending = (s.beaconPending || s.settings.beaconEnabled))

/-- ABSENCE_TIMER_EXPIRY and FREEWHEEL_TIMER_EXPIRY at the tick generator (R38, R40): each ticks when its timer runs and is
due, and only lets time pass otherwise (log entry 2). What the consumers of these ticks do is in the statements of every
tick. -/
def Obligations.AbsenceAndFreewheelTick : Prop :=
  ∀ (s : State) (dt restarted : Nat),
    (s.tick.reference = .present → s.tick.absenceTimer = some restarted → restarted + 100000000 ≤ s.now + dt →
      ∃ t, exec (.absenceTimerExpiry dt) s = .next t ∧
        t.tick = { s.tick with
          reference := .absent, count := (s.tick.count + 1) % 256, absenceTimer := none
          freewheelTimer := some (s.now + dt) } ∧
        t.notice .houseLost = { raised := true, generation := ((s.notice .houseLost).generation + 1) % 256 } ∧
        t.notice .houseReturned = s.notice .houseReturned) ∧
    (s.tick.reference = .absent → s.tick.freewheelTimer = some restarted →
      restarted + s.tick.period.getD 40000000 ≤ s.now + dt →
      ∃ t, exec (.freewheelTimerExpiry dt) s = .next t ∧
        t.tick = { s.tick with count := (s.tick.count + 1) % 256, freewheelTimer := some (s.now + dt) } ∧
        t.notice .houseLost = s.notice .houseLost ∧ t.notice .houseReturned = s.notice .houseReturned) ∧
    (s.tick.reference = .absent ∨ s.tick.absenceTimer = none ∨
        s.tick.absenceTimer = some restarted ∧ s.now + dt < restarted + 100000000 →
      exec (.absenceTimerExpiry dt) s = .next { s with now := s.now + dt }) ∧
    (s.tick.reference = .present ∨ s.tick.freewheelTimer = none ∨
        s.tick.freewheelTimer = some restarted ∧ s.now + dt < restarted + s.tick.period.getD 40000000 →
      exec (.freewheelTimerExpiry dt) s = .next { s with now := s.now + dt })

/-- The watches (R51, R53). At every house tick each ARMED watch in mode ABSENCE counts, and expires when its count reaches
its limit; every other watch stands. WATCH_EXPIRED and TALLY_REACHED as commands of their own (log entry 9) report a watch
of their mode that stands at its limit, an absence watch while it is ARMED, and change nothing else; on any other watch they
change nothing. -/
def Obligations.WatchesCountTicksAndReport : Prop :=
  (∀ (c : Instr) (s : State) (dt : Nat), Ticks c s dt → ∃ t, exec c s = .next t ∧
     ∀ (p : Feed) (e : RuleIndex),
       (s.rules[p][e].watchMode = .absence → s.rules[p][e].watchState = .armed →
         s.rules[p][e].watchCount + 1 ≠ s.rules[p][e].watchLimit →
         t.rules[p][e] = { s.rules[p][e] with watchCount := s.rules[p][e].watchCount + 1 } ∧
         t.notice (.watchExpired p e) = s.notice (.watchExpired p e)) ∧
       (s.rules[p][e].watchMode = .absence → s.rules[p][e].watchState = .armed →
         s.rules[p][e].watchCount + 1 = s.rules[p][e].watchLimit →
         t.rules[p][e] =
           { s.rules[p][e] with watchCount := s.rules[p][e].watchCount + 1, watchState := .expired } ∧
         t.notice (.watchExpired p e) =
           { raised := true, generation := ((s.notice (.watchExpired p e)).generation + 1) % 256 }) ∧
       (s.rules[p][e].watchMode ≠ .absence ∨ s.rules[p][e].watchState = .expired →
         t.rules[p][e] = s.rules[p][e] ∧ t.notice (.watchExpired p e) = s.notice (.watchExpired p e))) ∧
  (∀ (s : State) (p : Feed) (e : RuleIndex),
     (s.rules[p][e].watchMode = .absence → s.rules[p][e].watchState = .armed →
       s.rules[p][e].watchCount = s.rules[p][e].watchLimit →
       ∃ t, exec (.watchExpired p e) s = .next t ∧ t = { s with rules := t.rules, notices := t.notices } ∧
         t.rules[p][e] = { s.rules[p][e] with watchState := .expired } ∧
         (∀ (q : Feed) (d : RuleIndex), q ≠ p ∨ d ≠ e → t.rules[q][d] = s.rules[q][d]) ∧
         t.notice (.watchExpired p e) =
           { raised := true, generation := ((s.notice (.watchExpired p e)).generation + 1) % 256 } ∧
         (∀ n : Notice, n ≠ .watchExpired p e → t.notice n = s.notice n)) ∧
     (s.rules[p][e].watchMode = .tally → s.rules[p][e].watchCount = s.rules[p][e].watchLimit →
       ∃ t, exec (.tallyReached p e) s = .next t ∧ t = { s with rules := t.rules, notices := t.notices } ∧
         t.rules[p][e] = { s.rules[p][e] with watchCount := 0 } ∧
         (∀ (q : Feed) (d : RuleIndex), q ≠ p ∨ d ≠ e → t.rules[q][d] = s.rules[q][d]) ∧
         t.notice (.tallyReached p e) =
           { raised := true, generation := ((s.notice (.tallyReached p e)).generation + 1) % 256 } ∧
         (∀ n : Notice, n ≠ .tallyReached p e → t.notice n = s.notice n)) ∧
     (s.rules[p][e].watchMode ≠ .absence ∨ s.rules[p][e].watchState = .expired ∨
         s.rules[p][e].watchCount ≠ s.rules[p][e].watchLimit → exec (.watchExpired p e) s = .next s) ∧
     (s.rules[p][e].watchMode ≠ .tally ∨ s.rules[p][e].watchCount ≠ s.rules[p][e].watchLimit →
       exec (.tallyReached p e) s = .next s))

/-- The sweep (R65 to R67). Every house tick raises the counter, and at the sweep interval sweeps the table, whatever order
the tick's consumers take (log entry 6): each entry takes its line of the table of R66. The tick at the table is the SWEEP
that it calls for. SWEEP as a command of its own (log entry 9) makes a sweep that a tick has called for and otherwise
nothing, however A stands: the count falls by the entries removed, the counter returns to 0, and each lane takes the
failover check and the return check against the table after the whole sweep (R88 to R91). LANE-FAILOVER is raised exactly
for the lanes that fail over (R95), the running flag of a window open on a lane that fails over or returns becomes no
(R146), and nothing else changes. -/
def Obligations.SweepAgesAndRemoves : Prop :=
  (∀ (c : Instr) (s : State) (dt : Nat), Ticks c s dt → ∃ t, exec c s = .next t ∧ t.sweepReached = false ∧
     (s.sweepCounter + 1 < s.settings.sweepInterval →
       t.sweepCounter = s.sweepCounter + 1 ∧ t.streams = s.streams ∧ t.tableCount = s.tableCount) ∧
     (s.settings.sweepInterval ≤ s.sweepCounter + 1 →
       t.sweepCounter = 0 ∧
       ∀ (i : Fin 48),
         (s.streams[i] = none → t.streams[i] = none) ∧
         (∀ e : StreamEntry, s.streams[i] = some e → t.streams[i] =
           if e.seen then some { e with seen := false, age := 0 }
           else if e.age < 3 then some { e with age := e.age + 1 } else none))) ∧
  (∀ s : State,
     (s.sweepCounter + 1 < s.settings.sweepInterval →
       TickConsumer.table.act s = { s with sweepCounter := s.sweepCounter + 1, sweepReached := false }) ∧
     (s.settings.sweepInterval ≤ s.sweepCounter + 1 →
       exec .sweep { s with sweepCounter := s.sweepCounter + 1, sweepReached := true } =
         .next (TickConsumer.table.act s))) ∧
  (∀ s : State,
     (s.sweepReached = true → ∃ t, exec .sweep s = .next t ∧
       t = { s with
             streams := t.streams, tableCount := t.tableCount, sweepCounter := 0, sweepReached := false
             lanes := t.lanes, probe := t.probe, notices := t.notices } ∧
       (∀ i : Fin 48,
         (s.streams[i] = none → t.streams[i] = none) ∧
         (∀ e : StreamEntry, s.streams[i] = some e → t.streams[i] =
           if e.seen then some { e with seen := false, age := 0 }
           else if e.age < 3 then some { e with age := e.age + 1 } else none)) ∧
       t.tableCount = s.tableCount -
         ((s.streams.toList.filterMap id).filter fun e => !e.seen && decide (3 ≤ e.age)).length ∧
       ∃ failsOver returns : LaneId → Prop,
         (∀ l : LaneId, failsOver l ↔ s.lanes[l].active = .primary ∧ s.lanes[l].primary.isSome ∧
           t.hasSource s.lanes[l].primary = false ∧ t.hasSource s.lanes[l].backup = true) ∧
         (∀ l : LaneId, returns l ↔ s.lanes[l].active = .backup ∧ t.hasSource s.lanes[l].primary = true ∧
           (s.lanes[l].autoReturn = true ∨ t.hasSource s.lanes[l].backup = false)) ∧
         (∀ l : LaneId,
           (failsOver l → t.lanes[l] = s.lanes[l].emptied .backup .priming ∧
             t.notice (.laneFailover l) =
               { raised := true, generation := ((s.notice (.laneFailover l)).generation + 1) % 256 }) ∧
           (returns l → t.lanes[l] = s.lanes[l].emptied .primary .priming) ∧
           (¬failsOver l → ¬returns l → t.lanes[l] = s.lanes[l])) ∧
         (∀ n : Notice, (∀ l : LaneId, failsOver l → n ≠ .laneFailover l) → t.notice n = s.notice n) ∧
         WindowFollows s t fun l => failsOver l ∨ returns l) ∧
     (s.sweepReached = false → exec .sweep s = .next s))

/-- Every house tick at the paths, the probe and the lanes (R31, R33, R37, R39, R144). A tick delivers its count, the watches
and beacon-pending, and then reaches the table, the probe and the eight paths, in an order that is free where it shows
(log entry 6). At the probe, AWAIT-TICK becomes AWAIT-FRAME. At a path, in FOLLOW nothing; otherwise the requested mode comes
into force, and under NORMAL a generated frame begins with line 0, as a feed frame start that reaches the carriage unit, the
regulator, the line assembler and the probe; under BYPASS no frame goes on and the output is dark. What no order changes is
stated of the tick as a whole. `last` are the words that the output has written of what the tick ends: a frame with lines
to come ends in the middle of one (log entry 28). Free counts of words: log entries 12 and 13. -/
def Obligations.TickBeginsGeneratedFrames : Prop :=
  (∀ (c : Instr) (s : State) (dt : Nat) (last : Feed → List FeedWord), Ticks c s dt →
    (∀ p : Feed, last p = match s.outputs[p], s.rasters[p] with
      | .dark, _ => s.written[p]
      | .blackRun ws, _ => ws ++ List.replicate (Config.blackWords p (s.now + dt)) 0x040#10
      | .line l, none => l.words (Config.blackWords p (s.now + dt))
      | .line l, some g =>
        if g.next < g.lines then
          (l.words (Config.blackWords p (s.now + dt))).take (Config.wordsWritten p (s.now + dt))
        else l.words (Config.blackWords p (s.now + dt))) →
    ∃ (t u : State) (order : List TickConsumer),
    exec c s = .next t ∧ t = forList TickConsumer.act order u ∧
    order.Perm ([.table, .probe] ++ (List.finRange 8).map TickConsumer.path) ∧
    u = { s with
      now := s.now + dt, freeCount := u.freeCount, tick := u.tick, rules := u.rules
      beaconPending := u.beaconPending, notices := u.notices } ∧
    (∀ p : Feed,
      (s.paths[p].timing = .follow → t.paths[p] = s.paths[p] ∧ t.rasters[p] = s.rasters[p] ∧
        t.outputs[p] = s.outputs[p] ∧ t.written[p] = s.written[p] ∧ t.carriage[p] = s.carriage[p] ∧
        t.routes[p] = s.routes[p] ∧ t.notice (.carriageShortfall p) = s.notice (.carriageShortfall p)) ∧
      (s.paths[p].timing ≠ .follow → t.paths[p] = { s.paths[p] with inForce := s.paths[p].requested }) ∧
      (s.paths[p].timing ≠ .follow → s.paths[p].requested = .normal →
        t.rasters[p] = some
          { start := s.now + dt, period := t.tick.period.getD 40000000, lines := s.paths[p].fallback, next := 1
            begun := s.now + dt } ∧
        t.outputs[p] = .line
          { index := 0, frameMarker := true, generated := true, room := s.paths[p].room, packets := [], made := 0
            replies := false, placed := [], blanking := s.paths[p].room, picture := some [] } ∧
        t.written[p] = last p ∧
        t.carriage[p] =
          s.carriage[p].frameStart s.paths[p].fn s.paths[p].fd s.paths[p].quiet s.paths[p].fallback ∧
        t.notice (.carriageShortfall p) =
          (s.carriageFrameStart p s.paths[p].fallback).notice (.carriageShortfall p) ∧
        t.routes[p].live = (if s.routes[p].swapPending then s.routes[p].shadow else s.routes[p].live) ∧
        t.routes[p].shadow = s.routes[p].shadow ∧ t.routes[p].swapPending = false ∧
        t.routes[p].clips = s.routes[p].clips ∧ t.routes[p].seenLast = s.routes[p].seenThis ∧
        (∀ x : Slot, t.routes[p].seenThis[x] = false)) ∧
      (s.paths[p].timing ≠ .follow → s.paths[p].requested = .bypass →
        t.rasters[p] = none ∧ t.outputs[p] = .dark ∧ t.carriage[p] = s.carriage[p] ∧ t.routes[p] = s.routes[p] ∧
        t.notice (.carriageShortfall p) = s.notice (.carriageShortfall p))) ∧
    (s.sweepCounter + 1 < s.settings.sweepInterval → ∀ l : LaneId,
      (s.paths[s.lanes[l].drain].timing ≠ .follow → s.paths[s.lanes[l].drain].requested = .normal →
        t.lanes[l] = s.lanes[l].corrected ∧ t.regulators[l] = s.regulators[l].captured s.lanes[l]) ∧
      (s.paths[s.lanes[l].drain].timing = .follow ∨ s.paths[s.lanes[l].drain].requested = .bypass →
        t.lanes[l] = s.lanes[l] ∧ t.regulators[l] = s.regulators[l])) ∧
    ((∀ p : Feed, s.paths[p].timing = .follow ∨ s.paths[p].requested = .bypass) →
      t.regulators = s.regulators ∧ t.notice .probeDone = s.notice .probeDone ∧ t.probe.results = s.probe.results ∧
      (∀ l : LaneId, s.probe.run = .awaitTick l → t.probe.run = .awaitFrame l)) ∧
    (s.probe.run = .stopped → t.probe = s.probe ∧ t.notice .probeDone = s.notice .probeDone)) ∧
  (∀ s : State,
    (∀ l : LaneId, s.probe.run = .awaitTick l →
      TickConsumer.probe.act s = { s with probe := { s.probe with run := .awaitFrame l } }) ∧
    ((∀ l : LaneId, s.probe.run ≠ .awaitTick l) → TickConsumer.probe.act s = s)) ∧
  (∀ (s : State) (p : Feed) (last : List FeedWord),
    (last = match s.outputs[p], s.rasters[p] with
      | .dark, _ => s.written[p]
      | .blackRun ws, _ => ws ++ List.replicate (Config.blackWords p s.now) 0x040#10
      | .line l, none => l.words (Config.blackWords p s.now)
      | .line l, some g =>
        if g.next < g.lines then (l.words (Config.blackWords p s.now)).take (Config.wordsWritten p s.now)
        else l.words (Config.blackWords p s.now)) →
    (s.paths[p].timing = .follow → (TickConsumer.path p).act s = s) ∧
    (s.paths[p].timing ≠ .follow → s.paths[p].requested = .normal →
      (TickConsumer.path p).act s =
        State.probeFrameStart p (State.routeFrameStart p (State.regulate p (State.carriageFrameStart p s.paths[p].fallback
          { s with
          paths := s.paths.set p { s.paths[p] with inForce := .normal }
          rasters := s.rasters.set p (some
            { start := s.now, period := s.tick.period.getD 40000000, lines := s.paths[p].fallback, next := 1
              begun := s.now })
          written := s.written.set p last
          outputs := s.outputs.set p (.line
            { index := 0, frameMarker := true, generated := true, room := s.paths[p].room, packets := [], made := 0
              replies := false, placed := [], blanking := s.paths[p].room, picture := some [] }) })))) ∧
    (s.paths[p].timing ≠ .follow → s.paths[p].requested = .bypass →
      ∃ t, (TickConsumer.path p).act s = t ∧
        t = { s with paths := t.paths, rasters := t.rasters, outputs := t.outputs, written := t.written } ∧
        t.paths = s.paths.set p { s.paths[p] with inForce := .bypass } ∧ t.rasters = s.rasters.set p none ∧
        t.outputs = s.outputs.set p .dark ∧ (s.outputs[p] = .dark → t.written = s.written) ∧
        (∀ l : Line, s.outputs[p] = .line l → t.written = s.written.set p
          ((l.words (Config.blackWords p s.now)).take (Config.wordsWritten p s.now)))))

/-! ### Output lines (R32, R131 to R137) -/

/-- GENERATED_LINE_START (R32): line j of a generated frame begins once its start, the frame's start plus j × P / Lf, has
come (both sides taken Lf times), with B words of blanking space, behind the line that it ends (black words: log entry 13);
before that, after the last line, and without a frame, only time passes (log entry 2). A line whose packets and picture mark
outlast that time holds the next one back until its picture mark is written: three words behind its marker and its blanking
space, which its packets may lengthen (the time that so many words take: log entry 27). -/
def Obligations.GeneratedLineBeginsInItsTime : Prop :=
  ∀ (s : State) (p : Feed) (dt : Nat) (markTime : GenFrame → Line → Nat),
    (markTime = fun g l =>
      g.begun + Config.writingTime p g.begun (3 + max l.blanking (l.placed.map Packet.size).sum + 3)) →
    (∀ g : GenFrame, s.rasters[p] = some g → g.next < g.lines →
      g.start * g.lines + g.next * g.period ≤ (s.now + dt) * g.lines → 0 < g.next →
      (∀ l : Line, s.outputs[p] = .line l → markTime g l ≤ s.now + dt) →
      exec (.generatedLineStart p dt) s = .next { s with
        now := s.now + dt
        rasters := s.rasters.set p (some { g with next := g.next + 1, begun := s.now + dt })
        written := if s.outputs[p] = .dark then s.written
          else s.written.set p (s.outputs[p].words (Config.blackWords p (s.now + dt)))
        outputs := s.outputs.set p (.line
          { index := g.next, frameMarker := false, generated := true, room := s.paths[p].room, packets := []
            made := 0, replies := false, placed := [], blanking := s.paths[p].room, picture := some [] }) }) ∧
    (∀ g : GenFrame, s.rasters[p] = some g →
      g.lines ≤ g.next ∨ (s.now + dt) * g.lines < g.start * g.lines + g.next * g.period →
      exec (.generatedLineStart p dt) s = .next { s with now := s.now + dt }) ∧
    (∀ (g : GenFrame) (l : Line), s.rasters[p] = some g → s.outputs[p] = .line l → s.now + dt < markTime g l →
      exec (.generatedLineStart p dt) s = .next { s with now := s.now + dt }) ∧
    (s.rasters[p] = none → exec (.generatedLineStart p dt) s = .next { s with now := s.now + dt })

/-- The four steps of a line (R131). OUTPUT_LINE_ASSEMBLY makes the steps not yet made through the one it names, in order
(log entry 11): made in parts they come to what they come to at once, a step already made is not made again, and an output
without a line has none to assemble (log entry 23). A line that begins has made none, so a line that is cut between its
steps takes no more of them. -/
def Obligations.AssemblyStepsComeInOrder : Prop :=
  (∀ (s : State) (p : Feed) (first second : LineStep),
     first = second ∨ first = .passed ∨ second = .carriage ∨ (first = .beacon ∧ second = .replies) →
     ∃ t u, exec (.outputLineAssembly p first) s = .next t ∧ exec (.outputLineAssembly p second) t = .next u ∧
       exec (.outputLineAssembly p second) s = .next u) ∧
  (∀ (s : State) (p : Feed) (upTo : LineStep) (n : Nat),
     (n = match upTo with | .passed => 1 | .beacon => 2 | .replies => 3 | .carriage => 4) →
     ((∀ l : Line, s.outputs[p] ≠ .line l) → exec (.outputLineAssembly p upTo) s = .next s) ∧
     (∀ l : Line, s.outputs[p] = .line l → n ≤ l.made → exec (.outputLineAssembly p upTo) s = .next s)) ∧
  (∀ (s : State) (p q : Feed) (upTo : LineStep), q ≠ p →
     ∃ t, exec (.outputLineAssembly p upTo) s = .next t ∧ (t.outputs[q] = s.outputs[q] ∨ t.outputs[q] = .dark))

/-- OUTPUT_LINE_ASSEMBLY of a line where no slot is armed or BYPASS is in force (R9, R35, R131, R132, R150): through the
passed-packets step of any line, and through whichever step of a quiet line of a feed that is not the reply feed, the line
holds what it carries from its input, and nothing else changes. -/
def Obligations.QuietLineCarriesItsInput : Prop :=
  ∀ (s : State) (p : Feed) (upTo : LineStep) (n : Nat) (l : Line), s.outputs[p] = .line l → l.made = 0 →
    upTo = .passed ∨ (s.settings.replyFeed ≠ p ∧ l.index < s.carriage[p].frameQuiet) →
    (s.paths[p].inForce = .bypass ∨ ∀ x : Slot, s.routes[p].live[x].armed = false) →
    (n = match upTo with | .passed => 1 | .beacon => 2 | .replies => 3 | .carriage => 4) →
    exec (.outputLineAssembly p upTo) s = .next { s with
      outputs := s.outputs.set p (.line { l with made := n, placed := l.placed ++ l.carried s.paths[p].inForce }) }

/-- The passed-packets step of a NORMAL line, whatever packets its input line brought and whatever slots are armed (R132,
R136, R137, R140). A passed CARRIAGE packet with a good sum claims its slot, which the remainder of its head word by 8
names. Where the live entry is armed under OVERRIDE, every packet that claims the slot is removed, each raising
SLOT-COLLISION, and the entry stays armed. Where it is armed under YIELD, the first claim disarms it and raises
SLOT-COLLISION once, and every claim is placed. Packets that are stripped are not placed; those with a bad sum go out as
SPOILT, and they, the commands left on the line, other kinds and claims of a slot that is not armed collide with nothing. -/
def Obligations.CollisionFollowsThePolicy : Prop :=
  ∀ (s : State) (p : Feed) (l : Line) (claims : LinePacket → Slot → Bool),
    s.outputs[p] = .line l → l.made = 0 → s.paths[p].inForce = .normal →
    (∀ (y : LinePacket) (x : Slot), claims y x = true ↔ y.origin = .decided false true ∧ y.packet.kind = 0x60#8 ∧
      (y.packet.payload.head?.map fun head => head.toNat % 8) = some x.val) →
    ∃ (t : State) (w : Line), exec (.outputLineAssembly p .passed) s = .next t ∧
      t = { s with outputs := s.outputs.set p (.line w), routes := t.routes, notices := t.notices } ∧
      w = { l with made := 1, placed := w.placed } ∧
      w.placed = l.placed ++ l.packets.filterMap (fun y =>
        match y.origin with
        | .leftCommand => some y.packet
        | .decided true _ => none
        | .decided false false => some { y.packet with kind := 0x6F#8 }
        | .decided false true =>
          if (List.finRange 8).any fun x =>
            claims y x && s.routes[p].live[x].armed && s.routes[p].live[x].policy == .overrides then none
          else some y.packet) ∧
      t.routes = s.routes.set p { s.routes[p] with live := t.routes[p].live } ∧
      (∀ x : Slot, t.routes[p].live[x] =
        if s.routes[p].live[x].armed = true ∧ s.routes[p].live[x].policy = .yields ∧
          (l.packets.any fun y => claims y x) = true then { s.routes[p].live[x] with armed := false }
        else s.routes[p].live[x]) ∧
      (∀ x : Slot,
        (s.routes[p].live[x].armed = false ∨ (∀ y ∈ l.packets, claims y x = false) →
          t.notice (.slotCollision p x) = s.notice (.slotCollision p x)) ∧
        (s.routes[p].live[x].armed = true → (∃ y ∈ l.packets, claims y x = true) →
          t.notice (.slotCollision p x) =
            { raised := true
              generation := ((s.notice (.slotCollision p x)).generation +
                if s.routes[p].live[x].policy = .yields then 1
                else (l.packets.filter fun y => claims y x).length) % 256 })) ∧
      (∀ n : Notice, (∀ x : Slot, n ≠ .slotCollision p x) → t.notice n = s.notice n)

/-- The carriage step of a line, whatever was placed before it. On a carriage line with NORMAL in force (R106 to R108, R129,
R130, R135), the request moves the counters, every draining lane is popped k times, and each armed slot places one packet of
k sets, which together fit in the room left, and counts its clips. With BYPASS in force (R35, R36) nothing is placed, and the
draining lanes are popped by the set count, which no room reduces. On a quiet line the step does nothing. -/
def Obligations.CarriageLinePopsAndCarries : Prop :=
  ∀ (s : State) (p : Feed) (l : Line) (c : Carriage) (due : Nat),
    s.outputs[p] = .line l → l.made = 3 → c = s.carriage[p] →
    due = dueOf c.frameCount c.frameLines c.linePosition →
    (∀ (room k : Nat) (slots : List Slot), s.paths[p].inForce = .normal → c.frameQuiet ≤ l.index →
      slots = ((List.finRange 8).filter fun x => s.routes[p].live[x].armed) →
      room = l.room - packetsSize l.placed → k = setCount (c.owed + due) (some room) slots.length →
      ∃ (t : State) (w : Line), exec (.outputLineAssembly p .carriage) s = .next t ∧
        t = { s with
              outputs := s.outputs.set p (.line w), carriage := t.carriage, lanes := t.lanes, routes := t.routes
              probe := t.probe, notices := t.notices } ∧
        w = { l with made := 4, placed := w.placed } ∧
        t.carriage = s.carriage.set p { c with
          given := c.given + due, owed := c.owed + due - k, linePosition := c.linePosition + 1 } ∧
        (∀ n : LaneId, t.lanes[n] = if s.lanes[n].drain = p then (s.lanes[n].popTimes k).1 else s.lanes[n]) ∧
        t.probe = (s.popFeed p k).probe ∧ t.notices = (s.popFeed p k).notices ∧
        (k = 0 → w.placed = l.placed ∧ t.routes = s.routes) ∧
        (k ≠ 0 → w.placed = l.placed ++ slots.map fun x =>
          carriagePacket x c.phase (s.routes[p].live[x].outputs (fun n => (s.lanes[n].popTimes k).2) k)) ∧
        (k ≠ 0 → ∀ x : Slot, t.routes[p].clips[x] =
          if s.routes[p].live[x].armed then
            min 65535 (s.routes[p].clips[x] +
              s.routes[p].live[x].clipsOf (fun n => (s.lanes[n].popTimes k).2) k)
          else s.routes[p].clips[x]) ∧
        t.routes = s.routes.set p { s.routes[p] with clips := t.routes[p].clips } ∧
        packetsSize w.placed ≤ packetsSize l.placed + room) ∧
    (s.paths[p].inForce = .bypass → c.frameQuiet ≤ l.index →
      ∃ t, exec (.outputLineAssembly p .carriage) s = .next t ∧
        t = { s with
              outputs := s.outputs.set p (.line { l with made := 4 }), carriage := t.carriage, lanes := t.lanes
              probe := t.probe, notices := t.notices } ∧
        t.carriage = s.carriage.set p { c with
          given := c.given + due, owed := c.owed + due - min 4 (c.owed + due), linePosition := c.linePosition + 1 } ∧
        (∀ n : LaneId, t.lanes[n] =
          if s.lanes[n].drain = p then (s.lanes[n].popTimes (min 4 (c.owed + due))).1 else s.lanes[n]) ∧
        t.probe = (s.popFeed p (min 4 (c.owed + due))).probe ∧
        t.notices = (s.popFeed p (min 4 (c.owed + due))).notices) ∧
    (l.index < c.frameQuiet →
      exec (.outputLineAssembly p .carriage) s =
        .next { s with outputs := s.outputs.set p (.line { l with made := 4 }) })

/-- The beacon step and the replies step of a line (R16, R133, R134, R151, R159). On a line of the reply feed a pending
beacon is placed when its 17 words fit, with the address, the tick count, the summary, 2 to the power (kind − 1) for each
kind with a raised record, and the number of raised records; one that does not fit holds the replies back. Replies then
leave the queue one behind another while they fit in the room that remains; an overlong one at the head goes on a line on
which nothing was placed. A placement that makes room lets a waiting command execute at once. On a line of another feed
nothing is placed. -/
def Obligations.ReplyFeedLineCarriesBeaconAndReply : Prop :=
  ∀ (s : State) (p : Feed) (l : Line) (used : Nat) (holding : Line → State),
    s.outputs[p] = .line l → used = packetsSize l.placed →
    (holding = fun w => { s with outputs := s.outputs.set p (.line w) }) →
    (l.made = 1 →
      (s.settings.replyFeed ≠ p →
        exec (.outputLineAssembly p .beacon) s = .next (holding { l with made := 2 })) ∧
      (s.settings.replyFeed = p → s.beaconPending = false →
        exec (.outputLineAssembly p .beacon) s = .next (holding { l with made := 2, replies := true })) ∧
      (s.settings.replyFeed = p → s.beaconPending = true → l.room < used + 17 →
        exec (.outputLineAssembly p .beacon) s = .next (holding { l with made := 2 })) ∧
      (∀ summary : Nat, s.settings.replyFeed = p → s.beaconPending = true → used + 17 ≤ l.room → summary < 32768 →
        (∀ k : Nat, k < 15 →
          (summary.testBit k = true ↔ ∃ n : Notice, n.kind = k + 1 ∧ (s.notice n).raised = true)) →
        exec (.outputLineAssembly p .beacon) s = .next
          { holding { l with
              made := 2, replies := true
              placed := l.placed ++ [makePacket 0x63#8 (writeFields
                [s.deviceAddress.val, s.tick.count, summary,
                  (Notice.all.filter fun n => (s.notice n).raised).length])] } with
            beaconPending := false })) ∧
    (l.made = 2 →
      (s.settings.replyFeed ≠ p ∨ l.replies = false →
        exec (.outputLineAssembly p .replies) s = .next (holding { l with made := 3 })) ∧
      (∀ gone stay : List Reply, s.settings.replyFeed = p → l.replies = true → s.commandQueue = [] →
        s.replyQueue = gone ++ stay → used + (gone.map Reply.size).sum ≤ l.room ∨ gone = [] →
        (∀ r : Reply, stay.head? = some r →
          l.room < used + (gone.map Reply.size).sum + r.size ∧ (l.placed ≠ [] ∨ r.size ≤ l.room)) →
        exec (.outputLineAssembly p .replies) s = .next
          { holding { l with made := 3, placed := l.placed ++ gone.map Reply.packet } with replyQueue := stay }) ∧
      (∀ (r : Reply) (stay : List Reply), s.settings.replyFeed = p → l.replies = true → s.commandQueue = [] →
        s.replyQueue = r :: stay → l.placed = [] → l.room < r.size →
        exec (.outputLineAssembly p .replies) s = .next
          { holding { l with made := 3, placed := [r.packet] } with replyQueue := stay }) ∧
      (∀ (r second : Reply) (stay : List Reply) (c : Command) (behind : List Command) (u : State) (a : Answer),
        s.settings.replyFeed = p → l.replies = true → s.replyQueue = r :: second :: stay → s.replyQueue.length = 8 →
        used + r.size ≤ l.room → l.room < used + r.size + second.size → l.placed ≠ [] ∨ second.size ≤ l.room →
        s.commandQueue = c :: behind → c.broadcast = false →
        (∀ d : Command, behind.head? = some d → d.broadcast = false) →
        u = { holding { l with made := 3, placed := l.placed ++ [r.packet] } with
              replyQueue := second :: stay, commandQueue := behind } →
        a = u.judge c →
        exec (.outputLineAssembly p .replies) s = .next { a.state with
          replyQueue := a.state.replyQueue ++
            [{ fields := [s.deviceAddress.val, c.tag, a.code.code] ++ a.results }] }))

/-- What the part adds to a line fits in the line's B (R131, R133 to R135, R107): while no overlong reply waits, assembly
through any step leaves the packets of a line no more words than B or than those that stand on it after its passed-packets
step, whichever is more; and that step, the only one that does not consult B, adds no more words than the packets of the
input line take. -/
def Obligations.AddedPacketsFitTheRoom : Prop :=
  ∀ (s t u : State) (p : Feed) (upTo : LineStep) (l v w : Line), s.outputs[p] = .line l →
    (∀ r ∈ s.replyQueue, r.size ≤ l.room) →
    exec (.outputLineAssembly p .passed) s = .next t → t.outputs[p] = .line v →
    exec (.outputLineAssembly p upTo) s = .next u → u.outputs[p] = .line w →
    packetsSize w.placed ≤ max l.room (packetsSize v.placed) ∧
      packetsSize v.placed ≤ packetsSize l.placed + packetsSize (l.packets.map LinePacket.packet)

/-! ### The control channel: reads (R19, R22, R58, R71, R96, R112, R120, R139, R142, R153) -/

/-- READ_ENTRY_RULE, READ_ENTRY_LANE, READ_ENTRY_ROUTE_SHADOW, READ_ENTRY_ROUTE_LIVE, READ_ENTRY_STREAM, READ_ENTRY_PATH,
READ_ENTRY_PROBE and READ_ENTRY_SETTINGS that execute at once (R19, R22, R58, R71, R96, R112, R120, R139, R142, R153; log
entry 8): the fields of the entry in the order of R19, DONE; an index outside the range is answered BAD-INDEX; nothing else
changes. -/
def Obligations.ReadsAnswerEveryField : Prop :=
  (∀ (s : State) (tag index : Field), s.Ready →
    (∀ (p : Feed) (e : RuleIndex) (x : RuleEntry), index.toNat = 16 * p.val + e.val → x = s.rules[p][e] →
      exec (.readEntryRule tag index) s = .next (s.answered tag 0
        [yesNo x.enabled, x.matchField.code, x.compare.code, x.value, x.joined.toNat, x.source.val, yesNo x.strip,
          yesNo x.take, x.watchMode.code, x.watchLimit, x.watchState.code, x.watchCount])) ∧
    (128 ≤ index.toNat → exec (.readEntryRule tag index) s = .next (s.answered tag 5 [])) ∧
    (∀ (l : LaneId) (x : Lane) (r : Regulator), index.toNat = l.val → x = s.lanes[l] → r = s.regulators[l] →
      exec (.readEntryLane tag index) s = .next (s.answered tag 0
        [sourceCode x.primary, sourceCode x.backup, x.drain.val, x.target, x.window, yesNo x.invertLeft,
          yesNo x.invertRight, yesNo x.autoReturn, x.state.code, x.active.code, x.fifo.length, x.mendTally,
          x.overrunTally, r.drops, r.repeats, x.starveTally, r.snapshot])) ∧
    (32 ≤ index.toNat → exec (.readEntryLane tag index) s = .next (s.answered tag 5 []))) ∧
  ((∀ (s : State) (tag index : Field), s.Ready →
     (∀ (p : Feed) (x : Slot) (e : SlotEntry), index.toNat = 8 * p.val + x.val → e = s.routes[p].shadow[x] →
       exec (.readEntryRouteShadow tag index) s = .next (s.answered tag 0
         [yesNo e.armed, laneCode e.laneA, laneCode e.laneB, e.channelMap.code, yesNo e.halve, yesNo e.mute,
           e.policy.code, yesNo s.routes[p].swapPending])) ∧
     (∀ (p : Feed) (x : Slot) (e : SlotEntry), index.toNat = 8 * p.val + x.val → e = s.routes[p].live[x] →
       exec (.readEntryRouteLive tag index) s = .next (s.answered tag 0
         [yesNo e.armed, laneCode e.laneA, laneCode e.laneB, e.channelMap.code, yesNo e.halve, yesNo e.mute,
           e.policy.code, s.routes[p].clips[x], yesNo s.routes[p].seenLast[x], yesNo s.routes[p].swapPending])) ∧
     (64 ≤ index.toNat →
       exec (.readEntryRouteShadow tag index) s = .next (s.answered tag 5 []) ∧
       exec (.readEntryRouteLive tag index) s = .next (s.answered tag 5 [])) ∧
     (∀ (i : Fin 48) (e : StreamEntry), index.toNat = i.val → s.streams[i] = some e →
       exec (.readEntryStream tag index) s = .next (s.answered tag 0
         [1, s.tableCount, 8 * e.source.feed.val + e.source.slot.val, e.age, yesNo e.seen, e.phase, e.packets,
           e.mends, i.val])) ∧
     (∀ i : Fin 48, index.toNat = i.val → s.streams[i] = none →
       exec (.readEntryStream tag index) s = .next (s.answered tag 0 [0, s.tableCount, 0, 0, 0, 0, 0, 0, i.val])) ∧
     (48 ≤ index.toNat → exec (.readEntryStream tag index) s = .next (s.answered tag 5 []))) ∧
  (∀ (s : State) (tag index : Field), s.Ready →
     (∀ (p : Feed) (x : Path), index.toNat = p.val → x = s.paths[p] →
       exec (.readEntryPath tag index) s = .next (s.answered tag 0
         [x.requested.code, x.fn, x.fd, x.quiet, x.room, x.fallback, s.ports[p].measuredL.getD 0, x.timing.code,
           yesNo x.resumePending, yesNo (x.requested != x.inForce), s.carriage[p].phase, s.carriage[p].owed,
           s.carriage[p].shortfall])) ∧
     (8 ≤ index.toNat → exec (.readEntryPath tag index) s = .next (s.answered tag 5 [])) ∧
     (∀ (l : LaneId) (r : ProbeResult), index.toNat = l.val → r = s.probe.results[l] →
       exec (.readEntryProbe tag index) s = .next (s.answered tag 0
         [r.peakLeft, r.peakRight, r.overLeft, r.overRight, yesNo r.complete, r.pass,
           yesNo (s.probe.run != .stopped), laneCode s.probe.run.lane?])) ∧
     (32 ≤ index.toNat → exec (.readEntryProbe tag index) s = .next (s.answered tag 5 [])) ∧
     (index.toNat = 0 →
       exec (.readEntrySettings tag index) s = .next (s.answered tag 0
         [s.settings.controlFeed.val, s.settings.replyFeed.val, s.settings.sweepInterval,
           yesNo s.settings.beaconEnabled, s.deviceAddress.val])) ∧
     (index.toNat ≠ 0 → exec (.readEntrySettings tag index) s = .next (s.answered tag 5 []))))

/-! ### The control channel: writes (R20, R57, R74 to R76, R123, R153, R17) -/

/-- WRITE_ENTRY_RULE that executes at once (R19, R54, R57; log entry 8): an entry whose fields lie in their sets is stored
with its limit clamped and its watch restarted; a field outside its set is answered BAD-VALUE and nothing changes. -/
def Obligations.RuleWriteJudgedWhole : Prop :=
  ∀ (s : State) (tag index en mf cm va jo so st ta wm wl : Field), s.Ready →
    (∀ (p : Feed) (e : RuleIndex) (x y : RuleEntry), index.toNat = 16 * p.val + e.val →
      en.toNat = yesNo x.enabled → mf.toNat = x.matchField.code → cm.toNat = x.compare.code → va.toNat = x.value →
      x.value ≤ 255 → jo.toNat = x.joined.toNat → so.toNat = x.source.val → st.toNat = yesNo x.strip →
      ta.toNat = yesNo x.take → wm.toNat = x.watchMode.code →
      y = { x with watchLimit := max 1 (min 4095 wl.toNat), watchState := .armed, watchCount := 0 } →
      exec (.writeEntryRule tag index en mf cm va jo so st ta wm wl) s =
        .next (({ s with rules := s.rules.set p (s.rules[p].set e y) } : State).answered tag
          (if 1 ≤ wl.toNat ∧ wl.toNat ≤ 4095 then 0 else 1)
          [yesNo y.enabled, y.matchField.code, y.compare.code, y.value, y.joined.toNat, y.source.val, yesNo y.strip,
            yesNo y.take, y.watchMode.code, y.watchLimit])) ∧
    (index.toNat < 128 →
      2 ≤ en.toNat ∨ 3 ≤ mf.toNat ∨ 2 ≤ cm.toNat ∨ 256 ≤ va.toNat ∨ 65536 ≤ jo.toNat ∨ 16 ≤ so.toNat ∨
        2 ≤ st.toNat ∨ 2 ≤ ta.toNat ∨ 3 ≤ wm.toNat →
      exec (.writeEntryRule tag index en mf cm va jo so st ta wm wl) s = .next (s.answered tag 4 [])) ∧
    (128 ≤ index.toNat →
      exec (.writeEntryRule tag index en mf cm va jo so st ta wm wl) s = .next (s.answered tag 5 []))

/-- WRITE_ENTRY_LANE that executes at once (R74 to R77; log entry 8): the two steps of R74, a write that moves a source
or the drain empties the lane and sets it priming or idle, and one that does not leaves it as it runs. -/
def Obligations.LaneWriteJudgedWhole : Prop :=
  ∀ (s : State) (tag index pr ba dr tg wi il ir au : Field), s.Ready →
    (∀ (l : LaneId) (d : LaneDescriptor) (x : Lane), index.toNat = l.val →
      pr.toNat = sourceCode d.primary → ba.toNat = sourceCode d.backup → dr.toNat = d.drain.val →
      d.target = max 16 (min 1984 tg.toNat) → d.window = max 4 (min 256 wi.toNat) →
      il.toNat = yesNo d.invertLeft → ir.toNat = yesNo d.invertRight → au.toNat = yesNo d.autoReturn →
      (d.backup.isSome → d.primary.isSome ∧ d.primary ≠ d.backup) → x = s.lanes[l] →
      (x.drain ≠ d.drain → (∃ f : Feed, f ≠ d.drain ∧ s.routes[f].names l = true) →
        exec (.writeEntryLane tag index pr ba dr tg wi il ir au) s = .next (s.answered tag 7 [])) ∧
      (x.drain = d.drain ∨ (∀ f : Feed, f ≠ d.drain → s.routes[f].names l = false) →
        ∃ t, exec (.writeEntryLane tag index pr ba dr tg wi il ir au) s = .next t ∧
          t = { s with lanes := t.lanes, probe := t.probe, replyQueue := t.replyQueue } ∧
          t.replyQueue = (s.answered tag
            (if 16 ≤ tg.toNat ∧ tg.toNat ≤ 1984 ∧ 4 ≤ wi.toNat ∧ wi.toNat ≤ 256 then 0 else 1)
            [sourceCode d.primary, sourceCode d.backup, d.drain.val, d.target, d.window, yesNo d.invertLeft,
              yesNo d.invertRight, yesNo d.autoReturn]).replyQueue ∧
          (x.primary = d.primary → x.backup = d.backup → x.drain = d.drain →
            t.lanes = s.lanes.set l { x with
              target := d.target, window := d.window, invertLeft := d.invertLeft, invertRight := d.invertRight
              autoReturn := d.autoReturn } ∧
            t.probe = s.probe) ∧
          (x.primary ≠ d.primary ∨ x.backup ≠ d.backup ∨ x.drain ≠ d.drain →
            t.lanes = s.lanes.set l { x with
              primary := d.primary, backup := d.backup, drain := d.drain, target := d.target, window := d.window
              invertLeft := d.invertLeft, invertRight := d.invertRight, autoReturn := d.autoReturn
              state := if d.primary.isSome then .priming else .idle
              active := .primary, fifo := [], holdLeft := 0, holdRight := 0, lastOut := { left := 0, right := 0 } } ∧
            (∀ (f : Feed) (w : ProbeWork), s.probe.run = .measuring l f w →
              t.probe = { s.probe with run := .measuring l f { w with running := false } }) ∧
            ((∀ (f : Feed) (w : ProbeWork), s.probe.run ≠ .measuring l f w) → t.probe = s.probe)))) ∧
    (index.toNat < 32 →
      (pr.toNat ≠ 255 ∧ 64 ≤ pr.toNat) ∨ (ba.toNat ≠ 255 ∧ 64 ≤ ba.toNat) ∨ 8 ≤ dr.toNat ∨ 2 ≤ il.toNat ∨
        2 ≤ ir.toNat ∨ 2 ≤ au.toNat ∨ (ba.toNat ≠ 255 ∧ (pr = ba ∨ pr.toNat = 255)) →
      exec (.writeEntryLane tag index pr ba dr tg wi il ir au) s = .next (s.answered tag 4 [])) ∧
    (32 ≤ index.toNat →
      exec (.writeEntryLane tag index pr ba dr tg wi il ir au) s = .next (s.answered tag 5 []))

/-- WRITE_ENTRY_ROUTE_SHADOW that executes at once (R123; log entry 8): its four steps in order, and the entry stored. -/
def Obligations.RouteShadowWriteJudgedInOrder : Prop :=
  ∀ (s : State) (tag index ar la lb cm ha mu po : Field), s.Ready →
    (∀ (p : Feed) (x : Slot) (e : SlotEntry), index.toNat = 8 * p.val + x.val →
      ar.toNat = yesNo e.armed → la.toNat = laneCode e.laneA → lb.toNat = laneCode e.laneB →
      cm.toNat = e.channelMap.code → ha.toNat = yesNo e.halve → mu.toNat = yesNo e.mute →
      po.toNat = e.policy.code →
      (s.routes[p].swapPending = true →
        exec (.writeEntryRouteShadow tag index ar la lb cm ha mu po) s = .next (s.answered tag 8 [])) ∧
      (s.routes[p].swapPending = false →
        (∃ n : LaneId, e.names n = true ∧ s.lanes[n].drain ≠ p) →
        exec (.writeEntryRouteShadow tag index ar la lb cm ha mu po) s = .next (s.answered tag 6 [])) ∧
      (s.routes[p].swapPending = false → (∀ n : LaneId, e.names n = true → s.lanes[n].drain = p) →
        exec (.writeEntryRouteShadow tag index ar la lb cm ha mu po) s =
          .next (({ s with
            routes := s.routes.set p { s.routes[p] with shadow := s.routes[p].shadow.set x e } } : State).answered
              tag 0 [ar.toNat, la.toNat, lb.toNat, cm.toNat, ha.toNat, mu.toNat, po.toNat]))) ∧
    (index.toNat < 64 →
      2 ≤ ar.toNat ∨ (32 ≤ la.toNat ∧ la.toNat ≠ 255) ∨ (32 ≤ lb.toNat ∧ lb.toNat ≠ 255) ∨ 5 ≤ cm.toNat ∨
        2 ≤ ha.toNat ∨ 2 ≤ mu.toNat ∨ 2 ≤ po.toNat →
      exec (.writeEntryRouteShadow tag index ar la lb cm ha mu po) s = .next (s.answered tag 4 [])) ∧
    (64 ≤ index.toNat →
      exec (.writeEntryRouteShadow tag index ar la lb cm ha mu po) s = .next (s.answered tag 5 []))

/-- WRITE_ENTRY_PATH, WRITE_ENTRY_SETTINGS and WRITE_ENTRY_UNWRITABLE that execute at once (R17, R20, R21, R37, R103, R153; log
entry 8). The six fields of a path are stored with Q, B and Lf clamped; a change of rate sets the accumulator to 0 and marks
the cadence fresh, and the frame in progress goes on; a rate outside its range or of a cadence longer than 16 is answered
BAD-VALUE. The four settings are stored with A clamped, and storing beacon enabled no withdraws a pending beacon; no write
sweeps the table (R65). A table without a write layout is answered BAD-TABLE whatever follows its code. -/
def Obligations.PathAndSettingsWritesJudgedWhole : Prop :=
  (∀ (s : State) (tag index mo fn fd qu ro fa : Field), s.Ready →
    (∀ (p : Feed) (m : Mode) (x : Path), index.toNat = p.val → mo.toNat = m.code →
      12000 ≤ fn.toNat → fn.toNat ≤ 120000 → (fd.toNat = 1000 ∨ fd.toNat = 1001) →
      fn.toNat / Nat.gcd (48000 * fd.toNat) fn.toNat ≤ 16 →
      x = { s.paths[p] with
        requested := m, fn := fn.toNat, fd := fd.toNat, quiet := min 15 qu.toNat
        room := max 128 (min 1023 ro.toNat), fallback := max 16 (min 2047 fa.toNat) } →
      exec (.writeEntryPath tag index mo fn fd qu ro fa) s =
        .next (({ s with
          paths := s.paths.set p x
          carriage :=
            if fn.toNat = s.paths[p].fn ∧ fd.toNat = s.paths[p].fd then s.carriage
            else s.carriage.set p { s.carriage[p] with accumulator := 0, fresh := true } } : State).answered tag
          (if qu.toNat ≤ 15 ∧ 128 ≤ ro.toNat ∧ ro.toNat ≤ 1023 ∧ 16 ≤ fa.toNat ∧ fa.toNat ≤ 2047 then 0 else 1)
          [m.code, fn.toNat, fd.toNat, x.quiet, x.room, x.fallback])) ∧
    (index.toNat < 8 →
      2 ≤ mo.toNat ∨ fn.toNat < 12000 ∨ 120000 < fn.toNat ∨ (fd.toNat ≠ 1000 ∧ fd.toNat ≠ 1001) ∨
        16 < fn.toNat / Nat.gcd (48000 * fd.toNat) fn.toNat →
      exec (.writeEntryPath tag index mo fn fd qu ro fa) s = .next (s.answered tag 4 [])) ∧
    (8 ≤ index.toNat → exec (.writeEntryPath tag index mo fn fd qu ro fa) s = .next (s.answered tag 5 []))) ∧
  (∀ (s : State) (tag index cf rf sw be : Field), s.Ready →
    (∀ x : Settings, index.toNat = 0 → cf.toNat = x.controlFeed.val → rf.toNat = x.replyFeed.val →
      x.sweepInterval = max 1 (min 255 sw.toNat) → be.toNat = yesNo x.beaconEnabled →
      exec (.writeEntrySettings tag index cf rf sw be) s =
        .next (({ s with
          settings := x, beaconPending := if x.beaconEnabled then s.beaconPending else false } : State).answered tag
          (if 1 ≤ sw.toNat ∧ sw.toNat ≤ 255 then 0 else 1)
          [cf.toNat, rf.toNat, x.sweepInterval, be.toNat])) ∧
    (index.toNat = 0 → 8 ≤ cf.toNat ∨ 8 ≤ rf.toNat ∨ 2 ≤ be.toNat →
      exec (.writeEntrySettings tag index cf rf sw be) s = .next (s.answered tag 4 [])) ∧
    (index.toNat ≠ 0 → exec (.writeEntrySettings tag index cf rf sw be) s = .next (s.answered tag 5 [])) ∧
    (∀ (table : UnwritableTable) (fields : List Field),
      exec (.writeEntryUnwritable tag table fields) s = .next (s.answered tag 3 [])))

/-! ### The control channel: the other commands -/

/-- SWAP_ROUTES (R126, R152) and COPY_LIVE (R125), executed at once (log entry 8). Each feed of the set becomes swap-pending
and no other; a set above 255 is answered BAD-VALUE; as a broadcast it makes no reply, and one whose set exceeds 255
changes nothing. The live map replaces the shadow map whole unless a swap is pending. -/
def Obligations.RouteCommandsArmAndCopy : Prop :=
  (∀ (s : State) (tag feeds : Field) (armed : Vector Route 8), s.commandQueue = [] →
     (∀ p : Feed, armed[p] = if feeds.toNat.testBit p.val then { s.routes[p] with swapPending := true }
       else s.routes[p]) →
     (s.replyQueue.length < 8 → feeds.toNat ≤ 255 →
       exec (.swapRoutes false tag feeds) s = .next (({ s with routes := armed } : State).answered tag 0 [])) ∧
     (s.replyQueue.length < 8 → 255 < feeds.toNat →
       exec (.swapRoutes false tag feeds) s = .next (s.answered tag 4 [])) ∧
     (feeds.toNat ≤ 255 → exec (.swapRoutes true tag feeds) s = .next { s with routes := armed }) ∧
     (255 < feeds.toNat → exec (.swapRoutes true tag feeds) s = .next s)) ∧
  (∀ (s : State) (tag feed : Field), s.Ready →
     (∀ p : Feed, feed.toNat = p.val → s.routes[p].swapPending = false →
       exec (.copyLive tag feed) s = .next (({ s with
         routes := s.routes.set p { s.routes[p] with shadow := s.routes[p].live } } : State).answered tag 0 [])) ∧
     (∀ p : Feed, feed.toNat = p.val → s.routes[p].swapPending = true →
       exec (.copyLive tag feed) s = .next (s.answered tag 8 [])) ∧
     (8 ≤ feed.toNat → exec (.copyLive tag feed) s = .next (s.answered tag 4 [])))

/-- FLUSH_LANE and RETURN_PRIMARY (R77, R92, R93), executed at once (log entry 8). A lane that is not IDLE is flushed: it is
emptied, keeps its active source and goes to PRIMING. A lane on its backup returns to a primary whose stream is valid,
emptied and priming, and is answered NO-SIGNAL without one. The running flag of a window open on a lane that is emptied
becomes no (R146). In the other cases of the two tables nothing changes. -/
def Obligations.LaneCommandsEmptyTheLane : Prop :=
  (∀ (s : State) (tag lane : Field), s.Ready →
     (∀ l : LaneId, lane.toNat = l.val → s.lanes[l].state ≠ .idle →
       ∃ t, exec (.flushLane tag lane) s = .next t ∧
         t = { s.answered tag 0 [] with lanes := t.lanes, probe := t.probe } ∧
         t.lanes = s.lanes.set l { s.lanes[l] with
           state := .priming, fifo := [], holdLeft := 0, holdRight := 0, lastOut := { left := 0, right := 0 } } ∧
         WindowFollows s t fun n => n = l) ∧
     (∀ l : LaneId, lane.toNat = l.val → s.lanes[l].state = .idle →
       exec (.flushLane tag lane) s = .next (s.answered tag 0 [])) ∧
     (32 ≤ lane.toNat → exec (.flushLane tag lane) s = .next (s.answered tag 4 []))) ∧
  (∀ (s : State) (tag lane : Field), s.Ready →
     (∀ l : LaneId, lane.toNat = l.val → s.lanes[l].active = .backup → s.hasSource s.lanes[l].primary = true →
       ∃ t, exec (.returnPrimary tag lane) s = .next t ∧
         t = { s.answered tag 0 [] with lanes := t.lanes, probe := t.probe } ∧
         t.lanes = s.lanes.set l { s.lanes[l] with
           active := .primary, state := .priming, fifo := [], holdLeft := 0, holdRight := 0
           lastOut := { left := 0, right := 0 } } ∧
         WindowFollows s t fun n => n = l) ∧
     (∀ l : LaneId, lane.toNat = l.val → s.lanes[l].active = .backup → s.hasSource s.lanes[l].primary = false →
       exec (.returnPrimary tag lane) s = .next (s.answered tag 11 [])) ∧
     (∀ l : LaneId, lane.toNat = l.val → s.lanes[l].active = .primary →
       exec (.returnPrimary tag lane) s = .next (s.answered tag 0 [])) ∧
     (32 ≤ lane.toNat → exec (.returnPrimary tag lane) s = .next (s.answered tag 4 [])))

/-- RESUME (R28) and CLEAR_STREAMS (R69, R88), executed at once (log entry 8): the lines of the table of R28; and an empty
stream table, whose removals move no lane, since no backup has a valid entry any more. -/
def Obligations.ResumeAndClearStreams : Prop :=
  (∀ (s : State) (tag feed : Field), s.Ready →
     (∀ p : Feed, feed.toNat = p.val → s.paths[p].timing = .recovered →
       exec (.resume tag feed) s = .next (({ s with
         paths := s.paths.set p { s.paths[p] with resumePending := true } } : State).answered tag 0 [])) ∧
     (∀ p : Feed, feed.toNat = p.val → s.paths[p].timing = .lost →
       exec (.resume tag feed) s = .next (s.answered tag 11 [])) ∧
     (∀ p : Feed, feed.toNat = p.val → s.paths[p].timing = .follow →
       exec (.resume tag feed) s = .next (s.answered tag 0 [])) ∧
     (8 ≤ feed.toNat → exec (.resume tag feed) s = .next (s.answered tag 4 []))) ∧
  (∀ (s : State) (tag : Field), s.Ready → s.StreamLaw →
     exec (.clearStreams tag) s = .next (({ s with
       streams := Vector.replicate 48 none, tableCount := 0 } : State).answered tag 0 []))

/-- READ_STATUS and CLEAR_NOTICE (R155, R157, R158; log entry 8). The raised records from the cursor on are reported, at most
16, with more and the next cursor; a cursor above 3,967 is answered BAD-VALUE. A clear follows the lines of its table; a kind
and subject that name no record, and a generation above 255, are answered BAD-VALUE. INPUT-LOST persists exactly while its
path is in LOST, HOUSE-LOST exactly while the reference is ABSENT, SLOT-COLLISION exactly while seen-last-frame of its slot
is yes, and no other notice persists (R25, R40, R138, R155). -/
def Obligations.StatusAndClearFollowTheNoticeTable : Prop :=
  (∀ (s : State) (n : Notice), s.persists n = true ↔
    (∃ p : Feed, n = .inputLost p ∧ s.paths[p].timing = .lost) ∨
    (n = .houseLost ∧ s.tick.reference = .absent) ∨
    ∃ (p : Feed) (x : Slot), n = .slotCollision p x ∧ s.routes[p].seenLast[x] = true) ∧
  (∀ (s : State) (tag cursor : Field) (found : List Notice), s.Ready →
    found = (Notice.all.filter fun n => (s.notice n).raised && decide (cursor.toNat ≤ 256 * n.kind + n.subject)) →
    (cursor.toNat ≤ 3967 →
      exec (.readStatus tag cursor) s = .next (s.answered tag 0
        ([if 16 < found.length then 1 else 0,
          (match found[16]? with | some n => 256 * n.kind + n.subject | none => 0), min 16 found.length] ++
          (found.take 16).flatMap fun n => [n.kind, n.subject, (s.notice n).generation]))) ∧
    (3967 < cursor.toNat → exec (.readStatus tag cursor) s = .next (s.answered tag 4 []))) ∧
  (∀ (s : State) (tag kind subject generation : Field), s.Ready →
    (∀ n : Notice, kind.toNat = n.kind → subject.toNat = n.subject → generation.toNat ≤ 255 →
      ((s.notice n).raised = false →
        exec (.clearNotice tag kind subject generation) s = .next (s.answered tag 0 [])) ∧
      ((s.notice n).raised = true → (s.notice n).generation ≠ generation.toNat →
        exec (.clearNotice tag kind subject generation) s = .next (s.answered tag 9 [])) ∧
      ((s.notice n).raised = true → (s.notice n).generation = generation.toNat → s.persists n = true →
        exec (.clearNotice tag kind subject generation) s = .next (s.answered tag 10 [])) ∧
      ((s.notice n).raised = true → (s.notice n).generation = generation.toNat → s.persists n = false →
        ∃ t, exec (.clearNotice tag kind subject generation) s = .next t ∧
          t = { s.answered tag 0 [] with notices := t.notices } ∧
          t.notice n = { raised := false, generation := generation.toNat } ∧
          (∀ m : Notice, m ≠ n → t.notice m = s.notice m))) ∧
    ((∀ n : Notice, kind.toNat ≠ n.kind ∨ subject.toNat ≠ n.subject) ∨ 255 < generation.toNat →
      exec (.clearNotice tag kind subject generation) s = .next (s.answered tag 4 [])))

/-- PROBE_START and PROBE_STOP (R143, R144; log entry 8): an accepted start discards an open window, stores the settings
and waits on the first lane; a refused one leaves the probe; a stop stops it; no result record changes. -/
def Obligations.ProbeStartsAndStops : Prop :=
  ∀ (s : State) (tag mode first last trigger : Field), s.Ready →
    (∀ (m : ProbeMode) (a b : LaneId), mode.toNat = (match m with
        | .single => 0 | .repeating => 1 | .sweep => 2 | .repeatSweep => 3) →
      first.toNat = a.val → last.toNat = b.val → a ≤ b →
      (trigger.toNat = 0 → exec (.probeStart tag mode first last trigger) s = .next (({ s with
        probe := { settings := { mode := m, first := a, last := b, trigger := .command }, run := .awaitFrame a
                   results := s.probe.results } } : State).answered tag 0 [])) ∧
      (trigger.toNat = 1 → exec (.probeStart tag mode first last trigger) s = .next (({ s with
        probe := { settings := { mode := m, first := a, last := b, trigger := .house }, run := .awaitTick a
                   results := s.probe.results } } : State).answered tag 0 []))) ∧
    (4 ≤ mode.toNat ∨ 32 ≤ first.toNat ∨ 32 ≤ last.toNat ∨ 2 ≤ trigger.toNat ∨ last.toNat < first.toNat →
      exec (.probeStart tag mode first last trigger) s = .next (s.answered tag 4 [])) ∧
    exec (.probeStop tag) s =
      .next (({ s with probe := { s.probe with run := .stopped } } : State).answered tag 0 [])

/-- BAD_COMMAND and BROADCAST_DISCARD (R16, R17, R151, R152; log entry 8): a command that fails its decoding is answered,
with its tag or 0, and changes nothing; BAD-TABLE exactly when its sum is good, its payload is whole, and it is a READ-ENTRY
(code 1) of an unknown table code or a WRITE-ENTRY (code 2) of one that is unknown or has no write layout, the codes 1 to 8
being known and 4, 5 and 7 unwritten; BAD-COMMAND otherwise. A broadcast that does not execute is discarded without a
reply. -/
def Obligations.BadCommandsChangeNothing : Prop :=
  ∀ (s : State) (rest : List FeedWord) (good : Bool), s.commandQueue = [] →
    (∀ code : Nat, s.replyQueue.length < 8 → (Instr.badCommand rest good).wellFormed = true →
      (code = 3 → good = true ∧ rest.length % 3 = 0 ∧ ∃ (tag operation table : Nat) (more : List Nat),
        readFields rest = tag :: operation :: table :: more ∧
        ((operation = 1 ∧ (table < 1 ∨ 8 < table)) ∨
          (operation = 2 ∧ table ≠ 1 ∧ table ≠ 2 ∧ table ≠ 3 ∧ table ≠ 6 ∧ table ≠ 8))) →
      (code = 2 → good = false ∨ rest.length % 3 ≠ 0 ∨ ∀ (tag operation table : Nat) (more : List Nat),
        readFields rest = tag :: operation :: table :: more →
        (operation = 1 → 1 ≤ table ∧ table ≤ 8) ∧
          (operation = 2 → table = 1 ∨ table = 2 ∨ table = 3 ∨ table = 6 ∨ table = 8)) →
      code = 2 ∨ code = 3 →
      exec (.badCommand rest good) s = .next { s with
        replyQueue := s.replyQueue ++
          [{ fields := [s.deviceAddress.val, (readFields rest).head?.getD 0, code] }] }) ∧
    ((Instr.broadcastDiscard rest good).wellFormed = true → exec (.broadcastDiscard rest good) s = .next s)

/-- Commands that must wait (R149, R151, R162): while eight replies wait behind a command that is no broadcast, a new
command is queued; when four commands wait it is lost and COMMAND-OVERRUN is raised; RESTART is no exception. -/
def Obligations.FullQueuesStallTheChannel : Prop :=
  ∀ (s : State) (head : Command) (rest : List Command), s.commandQueue = head :: rest → head.broadcast = false →
    8 ≤ s.replyQueue.length →
    (∀ c : Command, s.commandQueue.length < 4 → s.submit c = { s with commandQueue := s.commandQueue ++ [c] }) ∧
    (∀ tag : Field, 4 ≤ s.commandQueue.length → ∃ t, exec (.restart tag) s = .next t ∧
      t = { s with notices := t.notices } ∧
      t.notice .commandOverrun =
        { raised := true, generation := ((s.notice .commandOverrun).generation + 1) % 256 } ∧
      (∀ n : Notice, n ≠ .commandOverrun → t.notice n = s.notice n))

/-- The head of the command queue (R16, R151): a command that is no broadcast leaves the queue with exactly one reply
appended, which carries the device address and its tag, unless it is a RESTART; and whatever is answered other than DONE
or ADJUSTED changes nothing and has no results. -/
def Obligations.ExecutedCommandsAreAnswered : Prop :=
  (∀ (s : State) (c : Command) (rest : List Command), s.commandQueue = c :: rest → c.broadcast = false →
     s.replyQueue.length < 8 → (∀ op, c.decode = .ok op → op ≠ .restart) →
     s.executeHead.commandQueue = rest ∧
       ∃ (code : Nat) (results : List Nat),
         s.executeHead.replyQueue = s.replyQueue ++ [{ fields := [s.deviceAddress.val, c.tag, code] ++ results }]) ∧
  (∀ (s : State) (c : Command), (s.judge c).code ≠ .done → (s.judge c).code ≠ .adjusted →
     (s.judge c).state = s ∧ (s.judge c).results = [])

/-! ### Words, samples and fields (chapter 1) -/

/-- What the part emits reads back. A carriage packet (R7, R11 to R14) has a good sum and the span 1 + 6 × k, and every
sample passes its check with its own value. Fields (R15) take three words each, each below 100h. -/
def Obligations.EmittedPayloadsReadBack : Prop :=
  (∀ (slot : Slot) (phase : Nat) (sets : List SampleSet), phase < 16 → sets.length ≤ 4 → (∀ x ∈ sets, x.InRange) →
     (carriagePacket slot phase sets).good = true ∧
     (carriagePacket slot phase sets).span = 1 + 6 * sets.length ∧
     readCarriage (carriagePacket slot phase sets).payload = some
       { slot := slot, phase := phase
         sets := sets.map fun x =>
           { left := { value := x.left, passes := true }, right := { value := x.right, passes := true } } }) ∧
  (∀ fields : List Nat, (∀ v ∈ fields, v ≤ 16777215) →
     readFields (writeFields fields) = fields ∧ (writeFields fields).length = 3 * fields.length ∧
       ∀ w ∈ writeFields fields, w.toNat < 256)

/-! ### Cadence and carriage (chapter 6) -/

/-- The cadence (R101 to R103): from a fresh start, the phases count 0 to K − 1 and repeat, the K frame counts of each
cadence sum to exactly N × K / Fn, and the accumulator returns to 0, whatever the geometry of the frames. -/
def Obligations.CadenceCarriesExactly : Prop :=
  ∀ (fn fd K : Nat) (quiet lines : Nat → Nat) (c : Carriage), 12000 ≤ fn → fn ≤ 120000 → (fd = 1000 ∨ fd = 1001) →
    K = fn / Nat.gcd (48000 * fd) fn → K ≤ 16 → c.fresh = true → c.accumulator = 0 →
    ∀ m : Nat,
      (c.frames fn fd quiet lines (m * K)).accumulator = 0 ∧
      (∀ i : Nat, (c.frames fn fd quiet lines (i + 1)).phase = i % K) ∧
      ((List.range K).map fun i => (c.frames fn fd quiet lines (m * K + i + 1)).frameCount).sum * fn =
        48000 * fd * K

/-- The dues of a frame (R105) are differences of quotients that sum to Sf over the L′ lines, each is the quotient of Sf by
L′ or one more, and a line beyond them owes none. The set count of a line (R106, R107) is at most 4 and at most owed; with n
armed slots it is the largest such that its packets, 6 × n × (k + 1) words, fit in the room, and 0 where none fits. -/
def Obligations.DuesAndSetCounts : Prop :=
  (∀ count lines : Nat, 1 ≤ lines →
     ((List.range lines).map fun j => dueOf count lines j).sum = count ∧
     (∀ j : Nat, j < lines → dueOf count lines j = (j + 1) * count / lines - j * count / lines) ∧
     (∀ j : Nat, j < lines → dueOf count lines j = count / lines ∨ dueOf count lines j = count / lines + 1) ∧
     (∀ j : Nat, lines ≤ j → dueOf count lines j = 0)) ∧
  (∀ (owed room n : Nat), 1 ≤ n →
     setCount owed none n = min 4 owed ∧ setCount owed (some room) 0 = min 4 owed ∧
     setCount owed (some room) n ≤ min 4 owed ∧
     (1 ≤ setCount owed (some room) n → 6 * n * (setCount owed (some room) n + 1) ≤ room) ∧
     (∀ k : Nat, k ≤ 4 → k ≤ owed → 6 * n * (k + 1) ≤ room → k ≤ setCount owed (some room) n))

/-- The frame start of the carriage unit (R100, R101, R102, R104, R109, R110): the undistributed remainder joins owed, an
excess above 8 goes to the shortfall tally and raises CARRIAGE-SHORTFALL, and the frame count, accumulator, phase and
geometry of the frame that begins are set. -/
def Obligations.CarriageFrameStartFollowsTheCadence : Prop :=
  ∀ (s : State) (p : Feed) (lines : Nat) (x : Path) (c d : Carriage) (owed : Nat), x = s.paths[p] →
    c = s.carriage[p] → d = (s.carriageFrameStart p lines).carriage[p] → owed = c.owed + (c.frameCount - c.given) →
    d.frameCount = (c.accumulator + 48000 * x.fd) / x.fn ∧
    d.accumulator = (c.accumulator + 48000 * x.fd) % x.fn ∧
    d.fresh = false ∧
    d.phase = (if c.fresh then 0 else if x.fn / Nat.gcd (48000 * x.fd) x.fn ≤ c.phase + 1 then 0 else c.phase + 1) ∧
    d.frameQuiet = x.quiet ∧ d.frameLines = max 1 (min lines 2047 - x.quiet) ∧ d.linePosition = 0 ∧ d.given = 0 ∧
    d.owed = min 8 owed ∧ d.shortfall = min 65535 (c.shortfall + (owed - 8)) ∧
    (8 < owed → (s.carriageFrameStart p lines).notice (.carriageShortfall p) =
      { raised := true, generation := ((s.notice (.carriageShortfall p)).generation + 1) % 256 }) ∧
    (owed ≤ 8 → (s.carriageFrameStart p lines).notices = s.notices) ∧
    s.carriageFrameStart p lines =
      { s with
        carriage := (s.carriageFrameStart p lines).carriage, notices := (s.carriageFrameStart p lines).notices } ∧
    (∀ q : Feed, q ≠ p → (s.carriageFrameStart p lines).carriage[q] = s.carriage[q])

/-! ### Lanes (chapters 5 and 7) -/

/-- One arriving set at one lane (R79 to R82): a lane on the stream with room appends the treated set, a full one drops it
with LANE-OVERRUN, any other lane stands; `left` and `right` are the stored values of R81. -/
def Obligations.ArrivingSetIsStored : Prop :=
  ∀ (s : State) (stream : Source) (l : LaneId) (c : CheckedSet) (x : Lane) (left right : Int), x = s.lanes[l] →
    left = (if c.left.passes = false then x.holdLeft
      else if x.invertLeft then (if c.left.value = -8388608 then 8388607 else -c.left.value) else c.left.value) →
    right = (if c.right.passes = false then x.holdRight
      else if x.invertRight then (if c.right.value = -8388608 then 8388607 else -c.right.value) else c.right.value) →
    (x.activeStream = some stream → x.fifo.length < 2048 →
      s.storeSet stream l c = { s with lanes := s.lanes.set l { x with
        fifo := x.fifo ++ [{ left := left, right := right }]
        holdLeft := left
        holdRight := right
        mendTally := min 65535 (x.mendTally + (if c.left.passes then 0 else 1) + (if c.right.passes then 0 else 1))
        state := if (x.state = .priming ∨ x.state = .starved) ∧ x.target ≤ x.fifo.length + 1 then .running
          else x.state } }) ∧
    (x.activeStream = some stream → 2048 ≤ x.fifo.length →
      s.storeSet stream l c = { s with
        lanes := s.lanes.set l { x with overrunTally := min 65535 (x.overrunTally + 1) }
        notices := s.notices.set (Notice.laneOverrun l).index
          { raised := true, generation := ((s.notice (.laneOverrun l)).generation + 1) % 256 } }) ∧
    (x.activeStream ≠ some stream → s.storeSet stream l c = s)

/-- The pops of a line (R84 to R86, R108, R146). A RUNNING lane yields its oldest sets in order; one that runs empty starves
once and yields zeros from there; a lane in any other state yields zeros and stands. On a line of a feed every draining
lane is popped k times and no other; LANE-STARVED is raised exactly for a lane that runs empty; a window open on a
draining lane of its window feed measures what it yields: a peak is the highest magnitude, the distance from 0 held at
8,388,607, and an over is a sample of 8,388,607 or −8,388,608, counted up to 255 (section 9.1). -/
def Obligations.LinePopsEveryDrainingLane : Prop :=
  (∀ (x : Lane) (k : Nat),
     (x.state ≠ .running → x.popTimes k = (x, List.replicate k { left := 0, right := 0 })) ∧
     (x.state = .running → k ≤ x.fifo.length → x.popTimes k =
       ({ x with fifo := x.fifo.drop k, lastOut := (x.fifo.take k).getLast?.getD x.lastOut }, x.fifo.take k)) ∧
     (x.state = .running → x.fifo.length < k → x.popTimes k =
       ({ x with
           fifo := [], lastOut := x.fifo.getLast?.getD x.lastOut, state := .starved
           starveTally := min 65535 (x.starveTally + 1) },
         x.fifo ++ List.replicate (k - x.fifo.length) { left := 0, right := 0 }))) ∧
  (∀ (s : State) (p : Feed) (k : Nat) (l : LaneId),
     ((s.popFeed p k).lanes[l] = if s.lanes[l].drain = p then (s.lanes[l].popTimes k).1 else s.lanes[l]) ∧
     (s.lanes[l].drain = p → s.lanes[l].state = .running → s.lanes[l].fifo.length < k →
       (s.popFeed p k).notice (.laneStarved l) =
         { raised := true, generation := ((s.notice (.laneStarved l)).generation + 1) % 256 }) ∧
     (s.lanes[l].drain ≠ p ∨ s.lanes[l].state ≠ .running ∨ k ≤ s.lanes[l].fifo.length →
       (s.popFeed p k).notice (.laneStarved l) = s.notice (.laneStarved l)) ∧
     (∀ (w v : ProbeWork) (sets : List SampleSet) (peak overs : List Int → Nat),
       s.probe.run = .measuring l p w → s.lanes[l].drain = p → sets = (s.lanes[l].popTimes k).2 →
       (peak = fun values => (values.map fun x => min 8388607 x.natAbs).foldl max 0) →
       (overs = fun values => (values.filter fun x => x == 8388607 || x == -8388608).length) →
       w.overLeft ≤ 255 → w.overRight ≤ 255 →
       v = { peakLeft := max w.peakLeft (peak (sets.map SampleSet.left))
             peakRight := max w.peakRight (peak (sets.map SampleSet.right))
             overLeft := min 255 (w.overLeft + overs (sets.map SampleSet.left))
             overRight := min 255 (w.overRight + overs (sets.map SampleSet.right))
             running := w.running && !(s.lanes[l].state == .running && decide (s.lanes[l].fifo.length < k)) } →
       (s.popFeed p k).probe.run = .measuring l p v) ∧
     ((∀ (n : LaneId) (w : ProbeWork), s.probe.run = .measuring n p w → s.lanes[n].drain ≠ p) →
       (s.popFeed p k).probe.run = s.probe.run ∨
         ∃ (n : LaneId) (f : Feed) (w : ProbeWork), s.probe.run = .measuring n f w ∧
           (s.popFeed p k).probe.run = .measuring n f { w with running := false }) ∧
     (s.popFeed p k).probe.results = s.probe.results)

/-- Fill regulation at a frame start (R87, R114 to R116): every draining lane's fill is captured; a RUNNING one above
T + W drops its oldest set, one below T − W repeats its last-out set in front, and the tally of the order rises; no
notice is raised. -/
def Obligations.RegulationKeepsTheWindow : Prop :=
  ∀ (s : State) (p : Feed) (l : LaneId) (x : Lane) (r : Regulator), x = s.lanes[l] → r = s.regulators[l] →
    (x.drain = p → x.state = .running → x.target + x.window < x.fifo.length →
      (s.regulate p).lanes[l] = { x with fifo := x.fifo.tail } ∧
      (s.regulate p).regulators[l] = { r with snapshot := x.fifo.length, drops := min 65535 (r.drops + 1) }) ∧
    (x.drain = p → x.state = .running → x.fifo.length + x.window < x.target →
      (s.regulate p).lanes[l] = { x with fifo := x.lastOut :: x.fifo } ∧
      (s.regulate p).regulators[l] = { r with snapshot := x.fifo.length, repeats := min 65535 (r.repeats + 1) }) ∧
    (x.drain = p →
      x.state ≠ .running ∨ (x.fifo.length ≤ x.target + x.window ∧ x.target ≤ x.fifo.length + x.window) →
      (s.regulate p).lanes[l] = x ∧ (s.regulate p).regulators[l] = { r with snapshot := x.fifo.length }) ∧
    (x.drain ≠ p → (s.regulate p).lanes[l] = x ∧ (s.regulate p).regulators[l] = r) ∧
    (s.regulate p).notices = s.notices

/-- The failover check and the return check (R77, R88, R90): each acts exactly on its conditions, empties the lane and sets
it priming on its new source, and the running flag of a window open on the lane becomes no (R146); only a failover raises a
notice, and nothing else changes. -/
def Obligations.FailoverAndReturnChecks : Prop :=
  ∀ (s : State) (l : LaneId) (x : Lane), x = s.lanes[l] →
    (x.active = .primary → x.primary.isSome → s.hasSource x.primary = false → s.hasSource x.backup = true →
      ∃ t, s.failoverCheck l = t ∧
        t = { s with
              lanes := s.lanes.set l { x with
                active := .backup, state := .priming, fifo := [], holdLeft := 0, holdRight := 0
                lastOut := { left := 0, right := 0 } }
              notices := s.notices.set (Notice.laneFailover l).index
                { raised := true, generation := ((s.notice (.laneFailover l)).generation + 1) % 256 }
              probe := t.probe } ∧
        WindowFollows s t fun n => n = l) ∧
    (x.active = .backup ∨ x.primary = none ∨ s.hasSource x.primary = true ∨ s.hasSource x.backup = false →
      s.failoverCheck l = s) ∧
    (x.active = .backup → s.hasSource x.primary = true → x.autoReturn = true ∨ s.hasSource x.backup = false →
      ∃ t, s.returnCheck l = t ∧
        t = { s with
              lanes := s.lanes.set l { x with
                active := .primary, state := .priming, fifo := [], holdLeft := 0, holdRight := 0
                lastOut := { left := 0, right := 0 } }
              probe := t.probe } ∧
        WindowFollows s t fun n => n = l) ∧
    (x.active = .primary ∨ s.hasSource x.primary = false ∨ (x.autoReturn = false ∧ s.hasSource x.backup = true) →
      s.returnCheck l = s)

/-! ### Slot arithmetic and the probe (chapters 8 and 9) -/

/-- The slot arithmetic (R128, R129). Each present lane contributes its set arranged by the channel map and halved where the
entry says so, quotients rounded down, and the contributions add. Without mute the output is that exact value where it is
in range and the nearer limit otherwise; with mute it is 0. A clip is counted for each exact value out of range, before
the mute; halving never clips, nor does a single lane. -/
def Obligations.SlotArithmeticIsExactOrSaturated : Prop :=
  (∀ (e : SlotEntry) (a b : Option SampleSet), (∀ x, a = some x → x.InRange) → (∀ x, b = some x → x.InRange) →
     (e.output a b).InRange ∧
     (e.mute = true → e.output a b = { left := 0, right := 0 }) ∧
     (e.mute = false →
       (InRange (e.exact a b).left → (e.output a b).left = (e.exact a b).left) ∧
       ((e.exact a b).left < -8388608 → (e.output a b).left = -8388608) ∧
       (8388607 < (e.exact a b).left → (e.output a b).left = 8388607) ∧
       (InRange (e.exact a b).right → (e.output a b).right = (e.exact a b).right) ∧
       ((e.exact a b).right < -8388608 → (e.output a b).right = -8388608) ∧
       (8388607 < (e.exact a b).right → (e.output a b).right = 8388607)) ∧
     e.clipCount a b =
       (if InRange (e.exact a b).left then 0 else 1) + (if InRange (e.exact a b).right then 0 else 1) ∧
     (e.halve = true ∨ a = none ∨ b = none → e.clipCount a b = 0)) ∧
  (∀ (e : SlotEntry) (x y : SampleSet) (h : Int → Int), (h = if e.halve then fun v => v / 2 else fun v => v) →
     (e.channelMap = .straight → e.exact (some x) none = { left := h x.left, right := h x.right }) ∧
     (e.channelMap = .swap → e.exact (some x) none = { left := h x.right, right := h x.left }) ∧
     (e.channelMap = .leftBoth → e.exact (some x) none = { left := h x.left, right := h x.left }) ∧
     (e.channelMap = .rightBoth → e.exact (some x) none = { left := h x.right, right := h x.right }) ∧
     (e.channelMap = .monoSum → e.exact (some x) none =
       { left := h ((x.left + x.right) / 2), right := h ((x.left + x.right) / 2) }) ∧
     e.exact none (some y) = e.exact (some y) none ∧
     e.exact none none = { left := 0, right := 0 } ∧
     e.exact (some x) (some y) =
       { left := (e.exact (some x) none).left + (e.exact (some y) none).left
         right := (e.exact (some x) none).right + (e.exact (some y) none).right })

/-- The probe at a frame start (R145, R147): a waiting window opens on its lane's drain feed, an open one closes on its
window feed, stores its result, and advances by the mode; a run that ends raises PROBE-DONE. `opens` says what a
frame start of the feed makes of a run that waits on a lane. -/
def Obligations.ProbeWindowsOpenAndClose : Prop :=
  ∀ (s : State) (f : Feed) (opens : LaneId → ProbeRun),
    (∀ l : LaneId, opens l =
      if s.lanes[l].drain = f then
        .measuring l f
          { peakLeft := 0, peakRight := 0, overLeft := 0, overRight := 0
            running := s.lanes[l].state == .running }
      else .awaitFrame l) →
    (∀ l : LaneId, s.probe.run = .awaitFrame l →
      s.probeFrameStart f = { s with probe := { s.probe with run := opens l } }) ∧
    (s.probe.run = .stopped ∨ (∃ l, s.probe.run = .awaitTick l) ∨
        (∃ l g w, s.probe.run = .measuring l g w ∧ g ≠ f) → s.probeFrameStart f = s) ∧
    (∀ (l : LaneId) (w : ProbeWork) (results : Vector ProbeResult 32) (ends : Bool) (next : LaneId),
      s.probe.run = .measuring l f w →
      results = s.probe.results.set l
        { peakLeft := w.peakLeft, peakRight := w.peakRight, overLeft := w.overLeft, overRight := w.overRight
          complete := w.running, pass := (s.probe.results[l].pass + 1) % 256 } →
      ends = (s.probe.settings.mode == .single ||
        s.probe.settings.mode == .sweep && decide (s.probe.settings.last ≤ l)) →
      next.val = (match s.probe.settings.mode with
        | .single => l.val
        | .repeating => l.val
        | .sweep => if l < s.probe.settings.last then l.val + 1 else l.val
        | .repeatSweep => if l < s.probe.settings.last then l.val + 1 else s.probe.settings.first.val) →
      (ends = true → s.probeFrameStart f = { s with
        probe := { s.probe with run := .stopped, results := results }
        notices := s.notices.set Notice.probeDone.index
          { raised := true, generation := ((s.notice .probeDone).generation + 1) % 256 } }) ∧
      (ends = false → s.probeFrameStart f = { s with
        probe := { s.probe with run := opens next, results := results } }))

/-! ### The laws that every step keeps -/

/-- The laws hold of the part right after power-on reset, and no sweep is called for (log entry 9). -/
def Obligations.LawsHoldAtReset : Prop :=
  State.reset.QueueLaw ∧ State.reset.StreamLaw ∧ State.reset.LaneLaw ∧ State.reset.RouteLaw ∧
    State.reset.SampleLaw ∧ State.reset.CarriageLaw ∧ State.reset.TimingLaw ∧ State.reset.sweepReached = false

/-- The queues hold at most 4 commands and 8 replies through every step (R151). -/
def Obligations.StepKeepsQueueLaw : Prop := ∀ s t : State, s.QueueLaw → step s = .next t → t.QueueLaw

/-- The stream table's count is its valid entries, no two of one stream, through every step (R60); and no sweep waits
between steps, since the tick that calls for one makes it (R65, R66; log entry 9). -/
def Obligations.StepKeepsStreamLaw : Prop :=
  (∀ s t : State, s.StreamLaw → step s = .next t → t.StreamLaw) ∧
  (∀ s t : State, s.sweepReached = false → step s = .next t → t.sweepReached = false)

/-- The laws of the lanes hold through every step (R74, R78), and so does the range of every sample they hold (00_scope.md,
Samples; R12, R81, R87). -/
def Obligations.StepKeepsLaneLaws : Prop :=
  (∀ s t : State, s.LaneLaw → step s = .next t → t.LaneLaw) ∧
  (∀ s t : State, s.SampleLaw → step s = .next t → t.SampleLaw)

/-- Every route entry names only lanes that drain to its feed, through every step (R124). -/
def Obligations.StepKeepsRouteLaw : Prop := ∀ s t : State, s.RouteLaw → step s = .next t → t.RouteLaw

/-- The cadence and the counters of every feed keep their ranges through every step (R101, R102, R104, R105, R110). -/
def Obligations.StepKeepsCarriageLaw : Prop := ∀ s t : State, s.CarriageLaw → step s = .next t → t.CarriageLaw

/-- Ports, timing states, generated frames and dark outputs agree through every step (R3, R25 to R27, R33, R35). -/
def Obligations.StepKeepsTimingLaw : Prop := ∀ s t : State, s.TimingLaw → step s = .next t → t.TimingLaw

end
end

