-- ==== Sys2Proof/Laws/State.lean ====
section
/-! SUPPORT. One lemma for each field and each named update of State, so that no proof unfolds a record update; and what
a read of a record gives after a write of one. -/

namespace Sys2Proof.Machine

/-! ### Vectors read at an index of their own kind -/

theorem vector_set_same {α : Type} {n : Nat} (v : Vector α n) (i : Fin n) (x : α) : (v.set i x)[i] = x := by simp

theorem vector_set_other {α : Type} {n : Nat} (v : Vector α n) {i j : Fin n} (x : α) (h : j ≠ i) :
    (v.set i x)[j] = v[j] := by
  have hv : i.val ≠ j.val := fun e => h (Fin.ext e.symm)
  simp [hv]

/-! ### setPort -/

section

variable (s : State) (p : Feed) (x : Port)

@[simp] theorem State.setPort_pending : (s.setPort p x).pending = s.pending := rfl
@[simp] theorem State.setPort_now : (s.setPort p x).now = s.now := rfl
@[simp] theorem State.setPort_freeCount : (s.setPort p x).freeCount = s.freeCount := rfl
@[simp] theorem State.setPort_rules : (s.setPort p x).rules = s.rules := rfl
@[simp] theorem State.setPort_streams : (s.setPort p x).streams = s.streams := rfl
@[simp] theorem State.setPort_tableCount : (s.setPort p x).tableCount = s.tableCount := rfl
@[simp] theorem State.setPort_sweepCounter : (s.setPort p x).sweepCounter = s.sweepCounter := rfl
@[simp] theorem State.setPort_sweepReached : (s.setPort p x).sweepReached = s.sweepReached := rfl
@[simp] theorem State.setPort_lanes : (s.setPort p x).lanes = s.lanes := rfl
@[simp] theorem State.setPort_regulators : (s.setPort p x).regulators = s.regulators := rfl
@[simp] theorem State.setPort_carriage : (s.setPort p x).carriage = s.carriage := rfl
@[simp] theorem State.setPort_routes : (s.setPort p x).routes = s.routes := rfl
@[simp] theorem State.setPort_paths : (s.setPort p x).paths = s.paths := rfl
@[simp] theorem State.setPort_rasters : (s.setPort p x).rasters = s.rasters := rfl
@[simp] theorem State.setPort_outputs : (s.setPort p x).outputs = s.outputs := rfl
@[simp] theorem State.setPort_written : (s.setPort p x).written = s.written := rfl
@[simp] theorem State.setPort_tick : (s.setPort p x).tick = s.tick := rfl
@[simp] theorem State.setPort_probe : (s.setPort p x).probe = s.probe := rfl
@[simp] theorem State.setPort_deviceAddress : (s.setPort p x).deviceAddress = s.deviceAddress := rfl
@[simp] theorem State.setPort_settings : (s.setPort p x).settings = s.settings := rfl
@[simp] theorem State.setPort_commandQueue : (s.setPort p x).commandQueue = s.commandQueue := rfl
@[simp] theorem State.setPort_replyQueue : (s.setPort p x).replyQueue = s.replyQueue := rfl
@[simp] theorem State.setPort_beaconPending : (s.setPort p x).beaconPending = s.beaconPending := rfl
@[simp] theorem State.setPort_notices : (s.setPort p x).notices = s.notices := rfl
@[simp] theorem State.setPort_ports : (s.setPort p x).ports = s.ports.set p x := rfl

theorem State.setPort_same : (s.setPort p x).ports[p] = x := vector_set_same _ _ _

theorem State.setPort_other {j : Feed} (h : j ≠ p) : (s.setPort p x).ports[j] = s.ports[j] :=
  vector_set_other _ _ h

end

/-! ### setRule -/

section

variable (s : State) (p : Feed) (e : RuleIndex) (x : RuleEntry)

@[simp] theorem State.setRule_pending : (s.setRule p e x).pending = s.pending := rfl
@[simp] theorem State.setRule_now : (s.setRule p e x).now = s.now := rfl
@[simp] theorem State.setRule_freeCount : (s.setRule p e x).freeCount = s.freeCount := rfl
@[simp] theorem State.setRule_ports : (s.setRule p e x).ports = s.ports := rfl
@[simp] theorem State.setRule_streams : (s.setRule p e x).streams = s.streams := rfl
@[simp] theorem State.setRule_tableCount : (s.setRule p e x).tableCount = s.tableCount := rfl
@[simp] theorem State.setRule_sweepCounter : (s.setRule p e x).sweepCounter = s.sweepCounter := rfl
@[simp] theorem State.setRule_sweepReached : (s.setRule p e x).sweepReached = s.sweepReached := rfl
@[simp] theorem State.setRule_lanes : (s.setRule p e x).lanes = s.lanes := rfl
@[simp] theorem State.setRule_regulators : (s.setRule p e x).regulators = s.regulators := rfl
@[simp] theorem State.setRule_carriage : (s.setRule p e x).carriage = s.carriage := rfl
@[simp] theorem State.setRule_routes : (s.setRule p e x).routes = s.routes := rfl
@[simp] theorem State.setRule_paths : (s.setRule p e x).paths = s.paths := rfl
@[simp] theorem State.setRule_rasters : (s.setRule p e x).rasters = s.rasters := rfl
@[simp] theorem State.setRule_outputs : (s.setRule p e x).outputs = s.outputs := rfl
@[simp] theorem State.setRule_written : (s.setRule p e x).written = s.written := rfl
@[simp] theorem State.setRule_tick : (s.setRule p e x).tick = s.tick := rfl
@[simp] theorem State.setRule_probe : (s.setRule p e x).probe = s.probe := rfl
@[simp] theorem State.setRule_deviceAddress : (s.setRule p e x).deviceAddress = s.deviceAddress := rfl
@[simp] theorem State.setRule_settings : (s.setRule p e x).settings = s.settings := rfl
@[simp] theorem State.setRule_commandQueue : (s.setRule p e x).commandQueue = s.commandQueue := rfl
@[simp] theorem State.setRule_replyQueue : (s.setRule p e x).replyQueue = s.replyQueue := rfl
@[simp] theorem State.setRule_beaconPending : (s.setRule p e x).beaconPending = s.beaconPending := rfl
@[simp] theorem State.setRule_notices : (s.setRule p e x).notices = s.notices := rfl
@[simp] theorem State.setRule_rules : (s.setRule p e x).rules = s.rules.set p (s.rules[p].set e x) := rfl

theorem State.setRule_same : (s.setRule p e x).rules[p][e] = x := by simp

theorem State.setRule_other {q : Feed} {d : RuleIndex} (h : q ≠ p ∨ d ≠ e) :
    (s.setRule p e x).rules[q][d] = s.rules[q][d] := by
  by_cases hq : q = p
  · subst hq
    have hd : d ≠ e := h.resolve_left fun k => k rfl
    rw [State.setRule_rules, vector_set_same, vector_set_other _ _ hd]
  · rw [State.setRule_rules, vector_set_other _ _ hq]

end

/-! ### setStream -/

section

variable (s : State) (i : Fin 48) (x : Option StreamEntry)

@[simp] theorem State.setStream_pending : (s.setStream i x).pending = s.pending := rfl
@[simp] theorem State.setStream_now : (s.setStream i x).now = s.now := rfl
@[simp] theorem State.setStream_freeCount : (s.setStream i x).freeCount = s.freeCount := rfl
@[simp] theorem State.setStream_ports : (s.setStream i x).ports = s.ports := rfl
@[simp] theorem State.setStream_rules : (s.setStream i x).rules = s.rules := rfl
@[simp] theorem State.setStream_tableCount : (s.setStream i x).tableCount = s.tableCount := rfl
@[simp] theorem State.setStream_sweepCounter : (s.setStream i x).sweepCounter = s.sweepCounter := rfl
@[simp] theorem State.setStream_sweepReached : (s.setStream i x).sweepReached = s.sweepReached := rfl
@[simp] theorem State.setStream_lanes : (s.setStream i x).lanes = s.lanes := rfl
@[simp] theorem State.setStream_regulators : (s.setStream i x).regulators = s.regulators := rfl
@[simp] theorem State.setStream_carriage : (s.setStream i x).carriage = s.carriage := rfl
@[simp] theorem State.setStream_routes : (s.setStream i x).routes = s.routes := rfl
@[simp] theorem State.setStream_paths : (s.setStream i x).paths = s.paths := rfl
@[simp] theorem State.setStream_rasters : (s.setStream i x).rasters = s.rasters := rfl
@[simp] theorem State.setStream_outputs : (s.setStream i x).outputs = s.outputs := rfl
@[simp] theorem State.setStream_written : (s.setStream i x).written = s.written := rfl
@[simp] theorem State.setStream_tick : (s.setStream i x).tick = s.tick := rfl
@[simp] theorem State.setStream_probe : (s.setStream i x).probe = s.probe := rfl
@[simp] theorem State.setStream_deviceAddress : (s.setStream i x).deviceAddress = s.deviceAddress := rfl
@[simp] theorem State.setStream_settings : (s.setStream i x).settings = s.settings := rfl
@[simp] theorem State.setStream_commandQueue : (s.setStream i x).commandQueue = s.commandQueue := rfl
@[simp] theorem State.setStream_replyQueue : (s.setStream i x).replyQueue = s.replyQueue := rfl
@[simp] theorem State.setStream_beaconPending : (s.setStream i x).beaconPending = s.beaconPending := rfl
@[simp] theorem State.setStream_notices : (s.setStream i x).notices = s.notices := rfl
@[simp] theorem State.setStream_streams : (s.setStream i x).streams = s.streams.set i x := rfl

theorem State.setStream_same : (s.setStream i x).streams[i] = x := vector_set_same _ _ _

theorem State.setStream_other {j : Fin 48} (h : j ≠ i) : (s.setStream i x).streams[j] = s.streams[j] :=
  vector_set_other _ _ h

end

/-! ### setLane -/

section

variable (s : State) (l : LaneId) (x : Lane)

@[simp] theorem State.setLane_pending : (s.setLane l x).pending = s.pending := rfl
@[simp] theorem State.setLane_now : (s.setLane l x).now = s.now := rfl
@[simp] theorem State.setLane_freeCount : (s.setLane l x).freeCount = s.freeCount := rfl
@[simp] theorem State.setLane_ports : (s.setLane l x).ports = s.ports := rfl
@[simp] theorem State.setLane_rules : (s.setLane l x).rules = s.rules := rfl
@[simp] theorem State.setLane_streams : (s.setLane l x).streams = s.streams := rfl
@[simp] theorem State.setLane_tableCount : (s.setLane l x).tableCount = s.tableCount := rfl
@[simp] theorem State.setLane_sweepCounter : (s.setLane l x).sweepCounter = s.sweepCounter := rfl
@[simp] theorem State.setLane_sweepReached : (s.setLane l x).sweepReached = s.sweepReached := rfl
@[simp] theorem State.setLane_regulators : (s.setLane l x).regulators = s.regulators := rfl
@[simp] theorem State.setLane_carriage : (s.setLane l x).carriage = s.carriage := rfl
@[simp] theorem State.setLane_routes : (s.setLane l x).routes = s.routes := rfl
@[simp] theorem State.setLane_paths : (s.setLane l x).paths = s.paths := rfl
@[simp] theorem State.setLane_rasters : (s.setLane l x).rasters = s.rasters := rfl
@[simp] theorem State.setLane_outputs : (s.setLane l x).outputs = s.outputs := rfl
@[simp] theorem State.setLane_written : (s.setLane l x).written = s.written := rfl
@[simp] theorem State.setLane_tick : (s.setLane l x).tick = s.tick := rfl
@[simp] theorem State.setLane_probe : (s.setLane l x).probe = s.probe := rfl
@[simp] theorem State.setLane_deviceAddress : (s.setLane l x).deviceAddress = s.deviceAddress := rfl
@[simp] theorem State.setLane_settings : (s.setLane l x).settings = s.settings := rfl
@[simp] theorem State.setLane_commandQueue : (s.setLane l x).commandQueue = s.commandQueue := rfl
@[simp] theorem State.setLane_replyQueue : (s.setLane l x).replyQueue = s.replyQueue := rfl
@[simp] theorem State.setLane_beaconPending : (s.setLane l x).beaconPending = s.beaconPending := rfl
@[simp] theorem State.setLane_notices : (s.setLane l x).notices = s.notices := rfl
@[simp] theorem State.setLane_lanes : (s.setLane l x).lanes = s.lanes.set l x := rfl

theorem State.setLane_same : (s.setLane l x).lanes[l] = x := vector_set_same _ _ _

theorem State.setLane_other {j : LaneId} (h : j ≠ l) : (s.setLane l x).lanes[j] = s.lanes[j] :=
  vector_set_other _ _ h

end

/-! ### setRegulator -/

section

variable (s : State) (l : LaneId) (x : Regulator)

@[simp] theorem State.setRegulator_pending : (s.setRegulator l x).pending = s.pending := rfl
@[simp] theorem State.setRegulator_now : (s.setRegulator l x).now = s.now := rfl
@[simp] theorem State.setRegulator_freeCount : (s.setRegulator l x).freeCount = s.freeCount := rfl
@[simp] theorem State.setRegulator_ports : (s.setRegulator l x).ports = s.ports := rfl
@[simp] theorem State.setRegulator_rules : (s.setRegulator l x).rules = s.rules := rfl
@[simp] theorem State.setRegulator_streams : (s.setRegulator l x).streams = s.streams := rfl
@[simp] theorem State.setRegulator_tableCount : (s.setRegulator l x).tableCount = s.tableCount := rfl
@[simp] theorem State.setRegulator_sweepCounter : (s.setRegulator l x).sweepCounter = s.sweepCounter := rfl
@[simp] theorem State.setRegulator_sweepReached : (s.setRegulator l x).sweepReached = s.sweepReached := rfl
@[simp] theorem State.setRegulator_lanes : (s.setRegulator l x).lanes = s.lanes := rfl
@[simp] theorem State.setRegulator_carriage : (s.setRegulator l x).carriage = s.carriage := rfl
@[simp] theorem State.setRegulator_routes : (s.setRegulator l x).routes = s.routes := rfl
@[simp] theorem State.setRegulator_paths : (s.setRegulator l x).paths = s.paths := rfl
@[simp] theorem State.setRegulator_rasters : (s.setRegulator l x).rasters = s.rasters := rfl
@[simp] theorem State.setRegulator_outputs : (s.setRegulator l x).outputs = s.outputs := rfl
@[simp] theorem State.setRegulator_written : (s.setRegulator l x).written = s.written := rfl
@[simp] theorem State.setRegulator_tick : (s.setRegulator l x).tick = s.tick := rfl
@[simp] theorem State.setRegulator_probe : (s.setRegulator l x).probe = s.probe := rfl
@[simp] theorem State.setRegulator_deviceAddress : (s.setRegulator l x).deviceAddress = s.deviceAddress := rfl
@[simp] theorem State.setRegulator_settings : (s.setRegulator l x).settings = s.settings := rfl
@[simp] theorem State.setRegulator_commandQueue : (s.setRegulator l x).commandQueue = s.commandQueue := rfl
@[simp] theorem State.setRegulator_replyQueue : (s.setRegulator l x).replyQueue = s.replyQueue := rfl
@[simp] theorem State.setRegulator_beaconPending : (s.setRegulator l x).beaconPending = s.beaconPending := rfl
@[simp] theorem State.setRegulator_notices : (s.setRegulator l x).notices = s.notices := rfl
@[simp] theorem State.setRegulator_regulators : (s.setRegulator l x).regulators = s.regulators.set l x := rfl

theorem State.setRegulator_same : (s.setRegulator l x).regulators[l] = x := vector_set_same _ _ _

theorem State.setRegulator_other {j : LaneId} (h : j ≠ l) : (s.setRegulator l x).regulators[j] = s.regulators[j] :=
  vector_set_other _ _ h

end

/-! ### setCarriage -/

section

variable (s : State) (p : Feed) (x : Carriage)

@[simp] theorem State.setCarriage_pending : (s.setCarriage p x).pending = s.pending := rfl
@[simp] theorem State.setCarriage_now : (s.setCarriage p x).now = s.now := rfl
@[simp] theorem State.setCarriage_freeCount : (s.setCarriage p x).freeCount = s.freeCount := rfl
@[simp] theorem State.setCarriage_ports : (s.setCarriage p x).ports = s.ports := rfl
@[simp] theorem State.setCarriage_rules : (s.setCarriage p x).rules = s.rules := rfl
@[simp] theorem State.setCarriage_streams : (s.setCarriage p x).streams = s.streams := rfl
@[simp] theorem State.setCarriage_tableCount : (s.setCarriage p x).tableCount = s.tableCount := rfl
@[simp] theorem State.setCarriage_sweepCounter : (s.setCarriage p x).sweepCounter = s.sweepCounter := rfl
@[simp] theorem State.setCarriage_sweepReached : (s.setCarriage p x).sweepReached = s.sweepReached := rfl
@[simp] theorem State.setCarriage_lanes : (s.setCarriage p x).lanes = s.lanes := rfl
@[simp] theorem State.setCarriage_regulators : (s.setCarriage p x).regulators = s.regulators := rfl
@[simp] theorem State.setCarriage_routes : (s.setCarriage p x).routes = s.routes := rfl
@[simp] theorem State.setCarriage_paths : (s.setCarriage p x).paths = s.paths := rfl
@[simp] theorem State.setCarriage_rasters : (s.setCarriage p x).rasters = s.rasters := rfl
@[simp] theorem State.setCarriage_outputs : (s.setCarriage p x).outputs = s.outputs := rfl
@[simp] theorem State.setCarriage_written : (s.setCarriage p x).written = s.written := rfl
@[simp] theorem State.setCarriage_tick : (s.setCarriage p x).tick = s.tick := rfl
@[simp] theorem State.setCarriage_probe : (s.setCarriage p x).probe = s.probe := rfl
@[simp] theorem State.setCarriage_deviceAddress : (s.setCarriage p x).deviceAddress = s.deviceAddress := rfl
@[simp] theorem State.setCarriage_settings : (s.setCarriage p x).settings = s.settings := rfl
@[simp] theorem State.setCarriage_commandQueue : (s.setCarriage p x).commandQueue = s.commandQueue := rfl
@[simp] theorem State.setCarriage_replyQueue : (s.setCarriage p x).replyQueue = s.replyQueue := rfl
@[simp] theorem State.setCarriage_beaconPending : (s.setCarriage p x).beaconPending = s.beaconPending := rfl
@[simp] theorem State.setCarriage_notices : (s.setCarriage p x).notices = s.notices := rfl
@[simp] theorem State.setCarriage_carriage : (s.setCarriage p x).carriage = s.carriage.set p x := rfl

theorem State.setCarriage_same : (s.setCarriage p x).carriage[p] = x := vector_set_same _ _ _

theorem State.setCarriage_other {j : Feed} (h : j ≠ p) : (s.setCarriage p x).carriage[j] = s.carriage[j] :=
  vector_set_other _ _ h

end

/-! ### setRoute -/

section

variable (s : State) (p : Feed) (x : Route)

@[simp] theorem State.setRoute_pending : (s.setRoute p x).pending = s.pending := rfl
@[simp] theorem State.setRoute_now : (s.setRoute p x).now = s.now := rfl
@[simp] theorem State.setRoute_freeCount : (s.setRoute p x).freeCount = s.freeCount := rfl
@[simp] theorem State.setRoute_ports : (s.setRoute p x).ports = s.ports := rfl
@[simp] theorem State.setRoute_rules : (s.setRoute p x).rules = s.rules := rfl
@[simp] theorem State.setRoute_streams : (s.setRoute p x).streams = s.streams := rfl
@[simp] theorem State.setRoute_tableCount : (s.setRoute p x).tableCount = s.tableCount := rfl
@[simp] theorem State.setRoute_sweepCounter : (s.setRoute p x).sweepCounter = s.sweepCounter := rfl
@[simp] theorem State.setRoute_sweepReached : (s.setRoute p x).sweepReached = s.sweepReached := rfl
@[simp] theorem State.setRoute_lanes : (s.setRoute p x).lanes = s.lanes := rfl
@[simp] theorem State.setRoute_regulators : (s.setRoute p x).regulators = s.regulators := rfl
@[simp] theorem State.setRoute_carriage : (s.setRoute p x).carriage = s.carriage := rfl
@[simp] theorem State.setRoute_paths : (s.setRoute p x).paths = s.paths := rfl
@[simp] theorem State.setRoute_rasters : (s.setRoute p x).rasters = s.rasters := rfl
@[simp] theorem State.setRoute_outputs : (s.setRoute p x).outputs = s.outputs := rfl
@[simp] theorem State.setRoute_written : (s.setRoute p x).written = s.written := rfl
@[simp] theorem State.setRoute_tick : (s.setRoute p x).tick = s.tick := rfl
@[simp] theorem State.setRoute_probe : (s.setRoute p x).probe = s.probe := rfl
@[simp] theorem State.setRoute_deviceAddress : (s.setRoute p x).deviceAddress = s.deviceAddress := rfl
@[simp] theorem State.setRoute_settings : (s.setRoute p x).settings = s.settings := rfl
@[simp] theorem State.setRoute_commandQueue : (s.setRoute p x).commandQueue = s.commandQueue := rfl
@[simp] theorem State.setRoute_replyQueue : (s.setRoute p x).replyQueue = s.replyQueue := rfl
@[simp] theorem State.setRoute_beaconPending : (s.setRoute p x).beaconPending = s.beaconPending := rfl
@[simp] theorem State.setRoute_notices : (s.setRoute p x).notices = s.notices := rfl
@[simp] theorem State.setRoute_routes : (s.setRoute p x).routes = s.routes.set p x := rfl

theorem State.setRoute_same : (s.setRoute p x).routes[p] = x := vector_set_same _ _ _

theorem State.setRoute_other {j : Feed} (h : j ≠ p) : (s.setRoute p x).routes[j] = s.routes[j] :=
  vector_set_other _ _ h

end

/-! ### setPath -/

section

variable (s : State) (p : Feed) (x : Path)

@[simp] theorem State.setPath_pending : (s.setPath p x).pending = s.pending := rfl
@[simp] theorem State.setPath_now : (s.setPath p x).now = s.now := rfl
@[simp] theorem State.setPath_freeCount : (s.setPath p x).freeCount = s.freeCount := rfl
@[simp] theorem State.setPath_ports : (s.setPath p x).ports = s.ports := rfl
@[simp] theorem State.setPath_rules : (s.setPath p x).rules = s.rules := rfl
@[simp] theorem State.setPath_streams : (s.setPath p x).streams = s.streams := rfl
@[simp] theorem State.setPath_tableCount : (s.setPath p x).tableCount = s.tableCount := rfl
@[simp] theorem State.setPath_sweepCounter : (s.setPath p x).sweepCounter = s.sweepCounter := rfl
@[simp] theorem State.setPath_sweepReached : (s.setPath p x).sweepReached = s.sweepReached := rfl
@[simp] theorem State.setPath_lanes : (s.setPath p x).lanes = s.lanes := rfl
@[simp] theorem State.setPath_regulators : (s.setPath p x).regulators = s.regulators := rfl
@[simp] theorem State.setPath_carriage : (s.setPath p x).carriage = s.carriage := rfl
@[simp] theorem State.setPath_routes : (s.setPath p x).routes = s.routes := rfl
@[simp] theorem State.setPath_rasters : (s.setPath p x).rasters = s.rasters := rfl
@[simp] theorem State.setPath_outputs : (s.setPath p x).outputs = s.outputs := rfl
@[simp] theorem State.setPath_written : (s.setPath p x).written = s.written := rfl
@[simp] theorem State.setPath_tick : (s.setPath p x).tick = s.tick := rfl
@[simp] theorem State.setPath_probe : (s.setPath p x).probe = s.probe := rfl
@[simp] theorem State.setPath_deviceAddress : (s.setPath p x).deviceAddress = s.deviceAddress := rfl
@[simp] theorem State.setPath_settings : (s.setPath p x).settings = s.settings := rfl
@[simp] theorem State.setPath_commandQueue : (s.setPath p x).commandQueue = s.commandQueue := rfl
@[simp] theorem State.setPath_replyQueue : (s.setPath p x).replyQueue = s.replyQueue := rfl
@[simp] theorem State.setPath_beaconPending : (s.setPath p x).beaconPending = s.beaconPending := rfl
@[simp] theorem State.setPath_notices : (s.setPath p x).notices = s.notices := rfl
@[simp] theorem State.setPath_paths : (s.setPath p x).paths = s.paths.set p x := rfl

theorem State.setPath_same : (s.setPath p x).paths[p] = x := vector_set_same _ _ _

theorem State.setPath_other {j : Feed} (h : j ≠ p) : (s.setPath p x).paths[j] = s.paths[j] :=
  vector_set_other _ _ h

end

/-! ### setRaster -/

section

variable (s : State) (p : Feed) (x : Option GenFrame)

@[simp] theorem State.setRaster_pending : (s.setRaster p x).pending = s.pending := rfl
@[simp] theorem State.setRaster_now : (s.setRaster p x).now = s.now := rfl
@[simp] theorem State.setRaster_freeCount : (s.setRaster p x).freeCount = s.freeCount := rfl
@[simp] theorem State.setRaster_ports : (s.setRaster p x).ports = s.ports := rfl
@[simp] theorem State.setRaster_rules : (s.setRaster p x).rules = s.rules := rfl
@[simp] theorem State.setRaster_streams : (s.setRaster p x).streams = s.streams := rfl
@[simp] theorem State.setRaster_tableCount : (s.setRaster p x).tableCount = s.tableCount := rfl
@[simp] theorem State.setRaster_sweepCounter : (s.setRaster p x).sweepCounter = s.sweepCounter := rfl
@[simp] theorem State.setRaster_sweepReached : (s.setRaster p x).sweepReached = s.sweepReached := rfl
@[simp] theorem State.setRaster_lanes : (s.setRaster p x).lanes = s.lanes := rfl
@[simp] theorem State.setRaster_regulators : (s.setRaster p x).regulators = s.regulators := rfl
@[simp] theorem State.setRaster_carriage : (s.setRaster p x).carriage = s.carriage := rfl
@[simp] theorem State.setRaster_routes : (s.setRaster p x).routes = s.routes := rfl
@[simp] theorem State.setRaster_paths : (s.setRaster p x).paths = s.paths := rfl
@[simp] theorem State.setRaster_outputs : (s.setRaster p x).outputs = s.outputs := rfl
@[simp] theorem State.setRaster_written : (s.setRaster p x).written = s.written := rfl
@[simp] theorem State.setRaster_tick : (s.setRaster p x).tick = s.tick := rfl
@[simp] theorem State.setRaster_probe : (s.setRaster p x).probe = s.probe := rfl
@[simp] theorem State.setRaster_deviceAddress : (s.setRaster p x).deviceAddress = s.deviceAddress := rfl
@[simp] theorem State.setRaster_settings : (s.setRaster p x).settings = s.settings := rfl
@[simp] theorem State.setRaster_commandQueue : (s.setRaster p x).commandQueue = s.commandQueue := rfl
@[simp] theorem State.setRaster_replyQueue : (s.setRaster p x).replyQueue = s.replyQueue := rfl
@[simp] theorem State.setRaster_beaconPending : (s.setRaster p x).beaconPending = s.beaconPending := rfl
@[simp] theorem State.setRaster_notices : (s.setRaster p x).notices = s.notices := rfl
@[simp] theorem State.setRaster_rasters : (s.setRaster p x).rasters = s.rasters.set p x := rfl

theorem State.setRaster_same : (s.setRaster p x).rasters[p] = x := vector_set_same _ _ _

theorem State.setRaster_other {j : Feed} (h : j ≠ p) : (s.setRaster p x).rasters[j] = s.rasters[j] :=
  vector_set_other _ _ h

end

/-! ### setOutput -/

section

variable (s : State) (p : Feed) (x : Output)

@[simp] theorem State.setOutput_pending : (s.setOutput p x).pending = s.pending := rfl
@[simp] theorem State.setOutput_now : (s.setOutput p x).now = s.now := rfl
@[simp] theorem State.setOutput_freeCount : (s.setOutput p x).freeCount = s.freeCount := rfl
@[simp] theorem State.setOutput_ports : (s.setOutput p x).ports = s.ports := rfl
@[simp] theorem State.setOutput_rules : (s.setOutput p x).rules = s.rules := rfl
@[simp] theorem State.setOutput_streams : (s.setOutput p x).streams = s.streams := rfl
@[simp] theorem State.setOutput_tableCount : (s.setOutput p x).tableCount = s.tableCount := rfl
@[simp] theorem State.setOutput_sweepCounter : (s.setOutput p x).sweepCounter = s.sweepCounter := rfl
@[simp] theorem State.setOutput_sweepReached : (s.setOutput p x).sweepReached = s.sweepReached := rfl
@[simp] theorem State.setOutput_lanes : (s.setOutput p x).lanes = s.lanes := rfl
@[simp] theorem State.setOutput_regulators : (s.setOutput p x).regulators = s.regulators := rfl
@[simp] theorem State.setOutput_carriage : (s.setOutput p x).carriage = s.carriage := rfl
@[simp] theorem State.setOutput_routes : (s.setOutput p x).routes = s.routes := rfl
@[simp] theorem State.setOutput_paths : (s.setOutput p x).paths = s.paths := rfl
@[simp] theorem State.setOutput_rasters : (s.setOutput p x).rasters = s.rasters := rfl
@[simp] theorem State.setOutput_written : (s.setOutput p x).written = s.written := rfl
@[simp] theorem State.setOutput_tick : (s.setOutput p x).tick = s.tick := rfl
@[simp] theorem State.setOutput_probe : (s.setOutput p x).probe = s.probe := rfl
@[simp] theorem State.setOutput_deviceAddress : (s.setOutput p x).deviceAddress = s.deviceAddress := rfl
@[simp] theorem State.setOutput_settings : (s.setOutput p x).settings = s.settings := rfl
@[simp] theorem State.setOutput_commandQueue : (s.setOutput p x).commandQueue = s.commandQueue := rfl
@[simp] theorem State.setOutput_replyQueue : (s.setOutput p x).replyQueue = s.replyQueue := rfl
@[simp] theorem State.setOutput_beaconPending : (s.setOutput p x).beaconPending = s.beaconPending := rfl
@[simp] theorem State.setOutput_notices : (s.setOutput p x).notices = s.notices := rfl
@[simp] theorem State.setOutput_outputs : (s.setOutput p x).outputs = s.outputs.set p x := rfl

theorem State.setOutput_same : (s.setOutput p x).outputs[p] = x := vector_set_same _ _ _

theorem State.setOutput_other {j : Feed} (h : j ≠ p) : (s.setOutput p x).outputs[j] = s.outputs[j] :=
  vector_set_other _ _ h

end

/-! ### setWritten -/

section

variable (s : State) (p : Feed) (x : List FeedWord)

@[simp] theorem State.setWritten_pending : (s.setWritten p x).pending = s.pending := rfl
@[simp] theorem State.setWritten_now : (s.setWritten p x).now = s.now := rfl
@[simp] theorem State.setWritten_freeCount : (s.setWritten p x).freeCount = s.freeCount := rfl
@[simp] theorem State.setWritten_ports : (s.setWritten p x).ports = s.ports := rfl
@[simp] theorem State.setWritten_rules : (s.setWritten p x).rules = s.rules := rfl
@[simp] theorem State.setWritten_streams : (s.setWritten p x).streams = s.streams := rfl
@[simp] theorem State.setWritten_tableCount : (s.setWritten p x).tableCount = s.tableCount := rfl
@[simp] theorem State.setWritten_sweepCounter : (s.setWritten p x).sweepCounter = s.sweepCounter := rfl
@[simp] theorem State.setWritten_sweepReached : (s.setWritten p x).sweepReached = s.sweepReached := rfl
@[simp] theorem State.setWritten_lanes : (s.setWritten p x).lanes = s.lanes := rfl
@[simp] theorem State.setWritten_regulators : (s.setWritten p x).regulators = s.regulators := rfl
@[simp] theorem State.setWritten_carriage : (s.setWritten p x).carriage = s.carriage := rfl
@[simp] theorem State.setWritten_routes : (s.setWritten p x).routes = s.routes := rfl
@[simp] theorem State.setWritten_paths : (s.setWritten p x).paths = s.paths := rfl
@[simp] theorem State.setWritten_rasters : (s.setWritten p x).rasters = s.rasters := rfl
@[simp] theorem State.setWritten_outputs : (s.setWritten p x).outputs = s.outputs := rfl
@[simp] theorem State.setWritten_tick : (s.setWritten p x).tick = s.tick := rfl
@[simp] theorem State.setWritten_probe : (s.setWritten p x).probe = s.probe := rfl
@[simp] theorem State.setWritten_deviceAddress : (s.setWritten p x).deviceAddress = s.deviceAddress := rfl
@[simp] theorem State.setWritten_settings : (s.setWritten p x).settings = s.settings := rfl
@[simp] theorem State.setWritten_commandQueue : (s.setWritten p x).commandQueue = s.commandQueue := rfl
@[simp] theorem State.setWritten_replyQueue : (s.setWritten p x).replyQueue = s.replyQueue := rfl
@[simp] theorem State.setWritten_beaconPending : (s.setWritten p x).beaconPending = s.beaconPending := rfl
@[simp] theorem State.setWritten_notices : (s.setWritten p x).notices = s.notices := rfl
@[simp] theorem State.setWritten_written : (s.setWritten p x).written = s.written.set p x := rfl

theorem State.setWritten_same : (s.setWritten p x).written[p] = x := vector_set_same _ _ _

theorem State.setWritten_other {j : Feed} (h : j ≠ p) : (s.setWritten p x).written[j] = s.written[j] :=
  vector_set_other _ _ h

end

/-! ### setTick -/

section

variable (s : State) (x : TickGen)

@[simp] theorem State.setTick_pending : (s.setTick x).pending = s.pending := rfl
@[simp] theorem State.setTick_now : (s.setTick x).now = s.now := rfl
@[simp] theorem State.setTick_freeCount : (s.setTick x).freeCount = s.freeCount := rfl
@[simp] theorem State.setTick_ports : (s.setTick x).ports = s.ports := rfl
@[simp] theorem State.setTick_rules : (s.setTick x).rules = s.rules := rfl
@[simp] theorem State.setTick_streams : (s.setTick x).streams = s.streams := rfl
@[simp] theorem State.setTick_tableCount : (s.setTick x).tableCount = s.tableCount := rfl
@[simp] theorem State.setTick_sweepCounter : (s.setTick x).sweepCounter = s.sweepCounter := rfl
@[simp] theorem State.setTick_sweepReached : (s.setTick x).sweepReached = s.sweepReached := rfl
@[simp] theorem State.setTick_lanes : (s.setTick x).lanes = s.lanes := rfl
@[simp] theorem State.setTick_regulators : (s.setTick x).regulators = s.regulators := rfl
@[simp] theorem State.setTick_carriage : (s.setTick x).carriage = s.carriage := rfl
@[simp] theorem State.setTick_routes : (s.setTick x).routes = s.routes := rfl
@[simp] theorem State.setTick_paths : (s.setTick x).paths = s.paths := rfl
@[simp] theorem State.setTick_rasters : (s.setTick x).rasters = s.rasters := rfl
@[simp] theorem State.setTick_outputs : (s.setTick x).outputs = s.outputs := rfl
@[simp] theorem State.setTick_written : (s.setTick x).written = s.written := rfl
@[simp] theorem State.setTick_probe : (s.setTick x).probe = s.probe := rfl
@[simp] theorem State.setTick_deviceAddress : (s.setTick x).deviceAddress = s.deviceAddress := rfl
@[simp] theorem State.setTick_settings : (s.setTick x).settings = s.settings := rfl
@[simp] theorem State.setTick_commandQueue : (s.setTick x).commandQueue = s.commandQueue := rfl
@[simp] theorem State.setTick_replyQueue : (s.setTick x).replyQueue = s.replyQueue := rfl
@[simp] theorem State.setTick_beaconPending : (s.setTick x).beaconPending = s.beaconPending := rfl
@[simp] theorem State.setTick_notices : (s.setTick x).notices = s.notices := rfl
@[simp] theorem State.setTick_tick : (s.setTick x).tick = x := rfl

end

/-! ### setProbe -/

section

variable (s : State) (x : Probe)

@[simp] theorem State.setProbe_pending : (s.setProbe x).pending = s.pending := rfl
@[simp] theorem State.setProbe_now : (s.setProbe x).now = s.now := rfl
@[simp] theorem State.setProbe_freeCount : (s.setProbe x).freeCount = s.freeCount := rfl
@[simp] theorem State.setProbe_ports : (s.setProbe x).ports = s.ports := rfl
@[simp] theorem State.setProbe_rules : (s.setProbe x).rules = s.rules := rfl
@[simp] theorem State.setProbe_streams : (s.setProbe x).streams = s.streams := rfl
@[simp] theorem State.setProbe_tableCount : (s.setProbe x).tableCount = s.tableCount := rfl
@[simp] theorem State.setProbe_sweepCounter : (s.setProbe x).sweepCounter = s.sweepCounter := rfl
@[simp] theorem State.setProbe_sweepReached : (s.setProbe x).sweepReached = s.sweepReached := rfl
@[simp] theorem State.setProbe_lanes : (s.setProbe x).lanes = s.lanes := rfl
@[simp] theorem State.setProbe_regulators : (s.setProbe x).regulators = s.regulators := rfl
@[simp] theorem State.setProbe_carriage : (s.setProbe x).carriage = s.carriage := rfl
@[simp] theorem State.setProbe_routes : (s.setProbe x).routes = s.routes := rfl
@[simp] theorem State.setProbe_paths : (s.setProbe x).paths = s.paths := rfl
@[simp] theorem State.setProbe_rasters : (s.setProbe x).rasters = s.rasters := rfl
@[simp] theorem State.setProbe_outputs : (s.setProbe x).outputs = s.outputs := rfl
@[simp] theorem State.setProbe_written : (s.setProbe x).written = s.written := rfl
@[simp] theorem State.setProbe_tick : (s.setProbe x).tick = s.tick := rfl
@[simp] theorem State.setProbe_deviceAddress : (s.setProbe x).deviceAddress = s.deviceAddress := rfl
@[simp] theorem State.setProbe_settings : (s.setProbe x).settings = s.settings := rfl
@[simp] theorem State.setProbe_commandQueue : (s.setProbe x).commandQueue = s.commandQueue := rfl
@[simp] theorem State.setProbe_replyQueue : (s.setProbe x).replyQueue = s.replyQueue := rfl
@[simp] theorem State.setProbe_beaconPending : (s.setProbe x).beaconPending = s.beaconPending := rfl
@[simp] theorem State.setProbe_notices : (s.setProbe x).notices = s.notices := rfl
@[simp] theorem State.setProbe_probe : (s.setProbe x).probe = x := rfl

end

/-! ### setNotice -/

section

variable (s : State) (i : Fin 453) (x : NoticeRecord)

@[simp] theorem State.setNotice_pending : (s.setNotice i x).pending = s.pending := rfl
@[simp] theorem State.setNotice_now : (s.setNotice i x).now = s.now := rfl
@[simp] theorem State.setNotice_freeCount : (s.setNotice i x).freeCount = s.freeCount := rfl
@[simp] theorem State.setNotice_ports : (s.setNotice i x).ports = s.ports := rfl
@[simp] theorem State.setNotice_rules : (s.setNotice i x).rules = s.rules := rfl
@[simp] theorem State.setNotice_streams : (s.setNotice i x).streams = s.streams := rfl
@[simp] theorem State.setNotice_tableCount : (s.setNotice i x).tableCount = s.tableCount := rfl
@[simp] theorem State.setNotice_sweepCounter : (s.setNotice i x).sweepCounter = s.sweepCounter := rfl
@[simp] theorem State.setNotice_sweepReached : (s.setNotice i x).sweepReached = s.sweepReached := rfl
@[simp] theorem State.setNotice_lanes : (s.setNotice i x).lanes = s.lanes := rfl
@[simp] theorem State.setNotice_regulators : (s.setNotice i x).regulators = s.regulators := rfl
@[simp] theorem State.setNotice_carriage : (s.setNotice i x).carriage = s.carriage := rfl
@[simp] theorem State.setNotice_routes : (s.setNotice i x).routes = s.routes := rfl
@[simp] theorem State.setNotice_paths : (s.setNotice i x).paths = s.paths := rfl
@[simp] theorem State.setNotice_rasters : (s.setNotice i x).rasters = s.rasters := rfl
@[simp] theorem State.setNotice_outputs : (s.setNotice i x).outputs = s.outputs := rfl
@[simp] theorem State.setNotice_written : (s.setNotice i x).written = s.written := rfl
@[simp] theorem State.setNotice_tick : (s.setNotice i x).tick = s.tick := rfl
@[simp] theorem State.setNotice_probe : (s.setNotice i x).probe = s.probe := rfl
@[simp] theorem State.setNotice_deviceAddress : (s.setNotice i x).deviceAddress = s.deviceAddress := rfl
@[simp] theorem State.setNotice_settings : (s.setNotice i x).settings = s.settings := rfl
@[simp] theorem State.setNotice_commandQueue : (s.setNotice i x).commandQueue = s.commandQueue := rfl
@[simp] theorem State.setNotice_replyQueue : (s.setNotice i x).replyQueue = s.replyQueue := rfl
@[simp] theorem State.setNotice_beaconPending : (s.setNotice i x).beaconPending = s.beaconPending := rfl
@[simp] theorem State.setNotice_notices : (s.setNotice i x).notices = s.notices.set i x := rfl

theorem State.setNotice_same : (s.setNotice i x).notices[i] = x := vector_set_same _ _ _

theorem State.setNotice_other {j : Fin 453} (h : j ≠ i) : (s.setNotice i x).notices[j] = s.notices[j] :=
  vector_set_other _ _ h

end

/-! ### elapse -/

section

variable (s : State) (dt : Nat)

@[simp] theorem State.elapse_pending : (s.elapse dt).pending = s.pending := rfl
@[simp] theorem State.elapse_now : (s.elapse dt).now = s.now + dt := rfl
@[simp] theorem State.elapse_freeCount : (s.elapse dt).freeCount = s.freeCount := rfl
@[simp] theorem State.elapse_ports : (s.elapse dt).ports = s.ports := rfl
@[simp] theorem State.elapse_rules : (s.elapse dt).rules = s.rules := rfl
@[simp] theorem State.elapse_streams : (s.elapse dt).streams = s.streams := rfl
@[simp] theorem State.elapse_tableCount : (s.elapse dt).tableCount = s.tableCount := rfl
@[simp] theorem State.elapse_sweepCounter : (s.elapse dt).sweepCounter = s.sweepCounter := rfl
@[simp] theorem State.elapse_sweepReached : (s.elapse dt).sweepReached = s.sweepReached := rfl
@[simp] theorem State.elapse_lanes : (s.elapse dt).lanes = s.lanes := rfl
@[simp] theorem State.elapse_regulators : (s.elapse dt).regulators = s.regulators := rfl
@[simp] theorem State.elapse_carriage : (s.elapse dt).carriage = s.carriage := rfl
@[simp] theorem State.elapse_routes : (s.elapse dt).routes = s.routes := rfl
@[simp] theorem State.elapse_paths : (s.elapse dt).paths = s.paths := rfl
@[simp] theorem State.elapse_rasters : (s.elapse dt).rasters = s.rasters := rfl
@[simp] theorem State.elapse_outputs : (s.elapse dt).outputs = s.outputs := rfl
@[simp] theorem State.elapse_written : (s.elapse dt).written = s.written := rfl
@[simp] theorem State.elapse_tick : (s.elapse dt).tick = s.tick := rfl
@[simp] theorem State.elapse_probe : (s.elapse dt).probe = s.probe := rfl
@[simp] theorem State.elapse_deviceAddress : (s.elapse dt).deviceAddress = s.deviceAddress := rfl
@[simp] theorem State.elapse_settings : (s.elapse dt).settings = s.settings := rfl
@[simp] theorem State.elapse_commandQueue : (s.elapse dt).commandQueue = s.commandQueue := rfl
@[simp] theorem State.elapse_replyQueue : (s.elapse dt).replyQueue = s.replyQueue := rfl
@[simp] theorem State.elapse_beaconPending : (s.elapse dt).beaconPending = s.beaconPending := rfl
@[simp] theorem State.elapse_notices : (s.elapse dt).notices = s.notices := rfl

end

/-! ### raise -/

section

variable (s : State) (n : Notice)

@[simp] theorem State.raise_pending : (s.raise n).pending = s.pending := rfl
@[simp] theorem State.raise_now : (s.raise n).now = s.now := rfl
@[simp] theorem State.raise_freeCount : (s.raise n).freeCount = s.freeCount := rfl
@[simp] theorem State.raise_ports : (s.raise n).ports = s.ports := rfl
@[simp] theorem State.raise_rules : (s.raise n).rules = s.rules := rfl
@[simp] theorem State.raise_streams : (s.raise n).streams = s.streams := rfl
@[simp] theorem State.raise_tableCount : (s.raise n).tableCount = s.tableCount := rfl
@[simp] theorem State.raise_sweepCounter : (s.raise n).sweepCounter = s.sweepCounter := rfl
@[simp] theorem State.raise_sweepReached : (s.raise n).sweepReached = s.sweepReached := rfl
@[simp] theorem State.raise_lanes : (s.raise n).lanes = s.lanes := rfl
@[simp] theorem State.raise_regulators : (s.raise n).regulators = s.regulators := rfl
@[simp] theorem State.raise_carriage : (s.raise n).carriage = s.carriage := rfl
@[simp] theorem State.raise_routes : (s.raise n).routes = s.routes := rfl
@[simp] theorem State.raise_paths : (s.raise n).paths = s.paths := rfl
@[simp] theorem State.raise_rasters : (s.raise n).rasters = s.rasters := rfl
@[simp] theorem State.raise_outputs : (s.raise n).outputs = s.outputs := rfl
@[simp] theorem State.raise_written : (s.raise n).written = s.written := rfl
@[simp] theorem State.raise_tick : (s.raise n).tick = s.tick := rfl
@[simp] theorem State.raise_probe : (s.raise n).probe = s.probe := rfl
@[simp] theorem State.raise_deviceAddress : (s.raise n).deviceAddress = s.deviceAddress := rfl
@[simp] theorem State.raise_settings : (s.raise n).settings = s.settings := rfl
@[simp] theorem State.raise_commandQueue : (s.raise n).commandQueue = s.commandQueue := rfl
@[simp] theorem State.raise_replyQueue : (s.raise n).replyQueue = s.replyQueue := rfl
@[simp] theorem State.raise_beaconPending : (s.raise n).beaconPending = s.beaconPending := rfl
@[simp] theorem State.raise_notices : (s.raise n).notices = s.notices.set n.index (s.notice n).raise := rfl

end

/-! ### resetBlocks -/

section

variable (s : State)

@[simp] theorem State.resetBlocks_pending : s.resetBlocks.pending = s.pending := rfl
@[simp] theorem State.resetBlocks_now : s.resetBlocks.now = s.now := rfl
@[simp] theorem State.resetBlocks_freeCount : s.resetBlocks.freeCount = s.freeCount := rfl
@[simp] theorem State.resetBlocks_ports : s.resetBlocks.ports = State.reset.ports := rfl
@[simp] theorem State.resetBlocks_rules : s.resetBlocks.rules = State.reset.rules := rfl
@[simp] theorem State.resetBlocks_streams : s.resetBlocks.streams = State.reset.streams := rfl
@[simp] theorem State.resetBlocks_tableCount : s.resetBlocks.tableCount = State.reset.tableCount := rfl
@[simp] theorem State.resetBlocks_sweepCounter : s.resetBlocks.sweepCounter = State.reset.sweepCounter := rfl
@[simp] theorem State.resetBlocks_sweepReached : s.resetBlocks.sweepReached = State.reset.sweepReached := rfl
@[simp] theorem State.resetBlocks_lanes : s.resetBlocks.lanes = State.reset.lanes := rfl
@[simp] theorem State.resetBlocks_regulators : s.resetBlocks.regulators = State.reset.regulators := rfl
@[simp] theorem State.resetBlocks_carriage : s.resetBlocks.carriage = State.reset.carriage := rfl
@[simp] theorem State.resetBlocks_routes : s.resetBlocks.routes = State.reset.routes := rfl
@[simp] theorem State.resetBlocks_paths : s.resetBlocks.paths = State.reset.paths := rfl
@[simp] theorem State.resetBlocks_rasters : s.resetBlocks.rasters = State.reset.rasters := rfl
@[simp] theorem State.resetBlocks_outputs : s.resetBlocks.outputs = State.reset.outputs := rfl
@[simp] theorem State.resetBlocks_written : s.resetBlocks.written = s.written := rfl
@[simp] theorem State.resetBlocks_tick : s.resetBlocks.tick = tickReset s.now := rfl
@[simp] theorem State.resetBlocks_probe : s.resetBlocks.probe = State.reset.probe := rfl
@[simp] theorem State.resetBlocks_deviceAddress : s.resetBlocks.deviceAddress = s.deviceAddress := rfl
@[simp] theorem State.resetBlocks_settings : s.resetBlocks.settings = s.settings := rfl
@[simp] theorem State.resetBlocks_commandQueue : s.resetBlocks.commandQueue = State.reset.commandQueue := rfl
@[simp] theorem State.resetBlocks_replyQueue : s.resetBlocks.replyQueue = State.reset.replyQueue := rfl
@[simp] theorem State.resetBlocks_beaconPending : s.resetBlocks.beaconPending = State.reset.beaconPending := rfl
@[simp] theorem State.resetBlocks_notices : s.resetBlocks.notices = State.reset.notices := rfl

end

end Sys2Proof.Machine
end

