-- ==== Sys2Proof/Laws/Flags.lean ====
section
/-! SUPPORT. The notice table: its places are distinct, `Notice.all` is the table in the order of R155, and what raising a
notice does to each record. -/

namespace Sys2Proof.Machine

/-- `Notice.all` holds every notice, each at its own place (R155). -/
theorem Notice.all_at_index (n : Notice) : Notice.all[n.index.val]? = some n := by
  cases n with
  | inputLost f => revert f; decide +kernel
  | inputReturned f => revert f; decide +kernel
  | rasterChange f => revert f; decide +kernel
  | houseLost => decide +kernel
  | houseReturned => decide +kernel
  | watchExpired f e => revert f e; decide +kernel
  | tallyReached f e => revert f e; decide +kernel
  | streamTableFull => decide +kernel
  | laneFailover l => revert l; decide +kernel
  | laneStarved l => revert l; decide +kernel
  | laneOverrun l => revert l; decide +kernel
  | slotCollision f x => revert f x; decide +kernel
  | carriageShortfall f => revert f; decide +kernel
  | commandOverrun => decide +kernel
  | probeDone => decide +kernel

/-- The table has 453 records (R155). -/
theorem Notice.all_length : Notice.all.length = 453 := by decide +kernel

/-- No two notices share a record (R155). -/
theorem Notice.index_injective {m n : Notice} (h : m.index = n.index) : m = n := by
  exact Option.some.inj ((Notice.all_at_index m).symm.trans (h ▸ Notice.all_at_index n))

/-- A raised record is raised, one generation on (R156). -/
theorem State.notice_raise_same (s : State) (n : Notice) : (s.raise n).notice n =
    { raised := true, generation := ((s.notice n).generation + 1) % 256 } := by
  simp [State.notice, NoticeRecord.raise]

/-- Raising a notice leaves every other record (R156). -/
theorem State.notice_raise_other (s : State) {m n : Notice} (h : m ≠ n) : (s.raise n).notice m = s.notice m := by
  have hi : m.index ≠ n.index := fun e => h (Notice.index_injective e)
  show (s.notices.set n.index (s.notice n).raise)[m.index] = s.notices[m.index]
  exact vector_set_other _ _ hi

/-- A record is read from the notice table alone. -/
theorem State.notice_congr {s t : State} (h : t.notices = s.notices) (n : Notice) : t.notice n = s.notice n := by
  simp [State.notice, h]

/-- Raising a notice changes the notice table alone. -/
theorem State.raise_frame (s : State) (n : Notice) : s.raise n = { s with notices := (s.raise n).notices } := rfl

end Sys2Proof.Machine
end

