-- ==== Sys2Proof/Laws/Fold.lean ====
section
/-! SUPPORT. Operations done for every index or member in turn: what each keeps, the whole keeps; and what a fold does to
one record when every other turn leaves that record alone. -/

namespace Sys2Proof.Machine

/-- What every turn keeps, the whole keeps. -/
theorem forList_keeps {α : Type} (P : State → Prop) (f : α → State → State) (l : List α) (s : State) (h : P s)
    (hf : ∀ x ∈ l, ∀ t, P t → P (f x t)) : P (forList f l s) := by
  induction l generalizing s with
  | nil => exact h
  | cons x l ih =>
    exact ih (f x s) (hf x (by simp) s h) fun y hy => hf y (by simp [hy])

theorem forEach_eq_forList {n : Nat} (f : Fin n → State → State) (s : State) :
    forEach f s = forList f (List.finRange n) s := rfl

theorem forEach_keeps {n : Nat} (P : State → Prop) (f : Fin n → State → State) (s : State) (h : P s)
    (hf : ∀ i t, P t → P (f i t)) : P (forEach f s) :=
  forList_keeps P f _ s h fun i _ => hf i

/-- A value that every turn leaves alone is left alone. -/
theorem forList_same {α β : Type} (v : State → β) (f : α → State → State) (l : List α) (s : State)
    (hf : ∀ x ∈ l, ∀ t, v (f x t) = v t) : v (forList f l s) = v s :=
  forList_keeps (fun t => v t = v s) f l s rfl fun x hx t ht => (hf x hx t).trans ht

theorem forEach_same {n : Nat} {β : Type} (v : State → β) (f : Fin n → State → State) (s : State)
    (hf : ∀ i t, v (f i t) = v t) : v (forEach f s) = v s :=
  forList_same v f _ s fun i _ => hf i

/-- A fold over the indices at one record: `v` is what is watched, `keep` what the turn of index `i` needs and every other
turn preserves. The turn of `i` takes `v` to `g (v s)` from any state that agrees with the start on `keep`. -/
theorem forEach_at {n : Nat} {β γ : Type} (v : State → β) (keep : State → γ) (f : Fin n → State → State) (s : State)
    (i : Fin n) (b : β) (hother : ∀ j t, j ≠ i → v (f j t) = v t) (hkeep : ∀ j t, keep (f j t) = keep t)
    (hi : ∀ t, keep t = keep s → v t = v s → v (f i t) = b) : v (forEach f s) = b := by
  have main : ∀ (l : List (Fin n)), l.Nodup → ∀ t, keep t = keep s →
      ((i ∈ l → v t = v s → v (forList f l t) = b) ∧ (i ∉ l → v (forList f l t) = v t)) := by
    intro l
    induction l with
    | nil => intro _ t _; exact ⟨fun h => by simp at h, fun _ => rfl⟩
    | cons j l ih =>
      intro hn t ht
      have hn' := List.nodup_cons.mp hn
      have step := ih hn'.2 (f j t) ((hkeep j t).trans ht)
      refine ⟨fun hmem hv => ?_, fun hmem => ?_⟩
      · by_cases hj : j = i
        · subst hj
          exact (step.2 hn'.1).trans (hi t ht hv)
        · have : i ∈ l := by
            rcases List.mem_cons.mp hmem with h | h
            · exact absurd h.symm hj
            · exact h
          exact step.1 this ((hother j t hj).trans hv)
      · have hj : j ≠ i := fun h => hmem (by simp [h])
        have hl : i ∉ l := fun h => hmem (by simp [h])
        exact (step.2 hl).trans (hother j t hj)
  exact (main _ (List.nodup_finRange n) s rfl).1 (List.mem_finRange i) rfl

end Sys2Proof.Machine
end

