-- ==== Sys2Proof/Laws/Frames.lean ====
section
/-! SUPPORT. What each shared operation can change. A veil replaces the fields that an operation may write by those of
some state `d`; a frame says that the veiled state is the same before and after, whatever `d` is. `(congrArg State.f h :)`
reads any other field `f` off a frame, and the widening lemmas pass from a narrow veil to a wide one. -/

namespace Sys2Proof.Machine

/-- Hides the probe and the notices: they are those of `d`. -/
def State.veilProbe (s d : State) : State := { s with probe := d.probe, notices := d.notices }

/-- Hides the lanes, the probe and the notices. -/
def State.veilLanes (s d : State) : State := { s.veilProbe d with lanes := d.lanes }

/-- Hides the stream table, the count of free values, the lanes, the probe and the notices. -/
def State.veilTable (s d : State) : State :=
  { s.veilLanes d with
    streams := d.streams, tableCount := d.tableCount, sweepCounter := d.sweepCounter, sweepReached := d.sweepReached
    freeCount := d.freeCount }

/-- Hides what a feed frame start writes: the carriage states, the route maps, the regulator's records, the lanes, the
probe and the notices. -/
def State.veilFrame (s d : State) : State :=
  { s.veilLanes d with carriage := d.carriage, routes := d.routes, regulators := d.regulators }

/-- Hides the rule entries and the notices. -/
def State.veilRules (s d : State) : State := { s with rules := d.rules, notices := d.notices }

/-- Hides what a packet at the classifier writes. -/
def State.veilPacket (s d : State) : State :=
  { s.veilTable d with rules := d.rules, routes := d.routes, outputs := d.outputs }

/-- Hides what a house tick writes at its consumers. -/
def State.veilTick (s d : State) : State :=
  { s.veilTable d with
    carriage := d.carriage, routes := d.routes, regulators := d.regulators, paths := d.paths, rasters := d.rasters
    outputs := d.outputs, written := d.written }

/-! ### Widening a veil -/

section

variable {s t d : State}

theorem State.veilLanes_of_probe (h : s.veilProbe d = t.veilProbe d) : s.veilLanes d = t.veilLanes d := by
  have := congrArg (fun x : State => x.veilLanes d) h
  exact this

theorem State.veilTable_of_lanes (h : s.veilLanes d = t.veilLanes d) : s.veilTable d = t.veilTable d := by
  have := congrArg (fun x : State => x.veilTable d) h
  exact this

theorem State.veilFrame_of_lanes (h : s.veilLanes d = t.veilLanes d) : s.veilFrame d = t.veilFrame d := by
  have := congrArg (fun x : State => x.veilFrame d) h
  exact this

theorem State.veilPacket_of_table (h : s.veilTable d = t.veilTable d) : s.veilPacket d = t.veilPacket d := by
  have := congrArg (fun x : State => x.veilPacket d) h
  exact this

theorem State.veilPacket_of_rules (h : s.veilRules d = t.veilRules d) : s.veilPacket d = t.veilPacket d := by
  have := congrArg (fun x : State => x.veilPacket d) h
  exact this

theorem State.veilTick_of_table (h : s.veilTable d = t.veilTable d) : s.veilTick d = t.veilTick d := by
  have := congrArg (fun x : State => x.veilTick d) h
  exact this

theorem State.veilTick_of_frame (h : s.veilFrame d = t.veilFrame d) : s.veilTick d = t.veilTick d := by
  have := congrArg (fun x : State => x.veilTick d) h
  exact this

end

section

variable (d : State)

/-! ### Notices and the level probe -/

theorem State.raise_veil (n : Notice) (s : State) : (s.raise n).veilProbe d = s.veilProbe d := rfl

theorem State.probeMeasure_veil (p : Feed) (l : LaneId) (x : List SampleSet) (s : State) :
    (s.probeMeasure p l x).veilProbe d = s.veilProbe d := by
  unfold State.probeMeasure
  split
  · split <;> rfl
  · rfl

theorem State.probeLeft_veil (l : LaneId) (s : State) : (s.probeLeft l).veilProbe d = s.veilProbe d := by
  unfold State.probeLeft
  split
  · split <;> rfl
  · rfl

theorem State.probeTick_veil (s : State) : s.probeTick.veilProbe d = s.veilProbe d := by
  unfold State.probeTick
  split <;> rfl

theorem State.probeOpen_veil (f : Feed) (s : State) : (s.probeOpen f).veilProbe d = s.veilProbe d := by
  unfold State.probeOpen
  split
  · split <;> rfl
  · rfl

theorem State.probeClose_veil (l : LaneId) (w : ProbeWork) (s : State) :
    (s.probeClose l w).veilProbe d = s.veilProbe d := by
  unfold State.probeClose
  dsimp only
  split <;> rfl

theorem State.probeFrameStart_veil (f : Feed) (s : State) : (s.probeFrameStart f).veilProbe d = s.veilProbe d := by
  unfold State.probeFrameStart
  split
  · split
    · exact (State.probeOpen_veil d _ _).trans (State.probeClose_veil d _ _ _)
    · rfl
  · exact State.probeOpen_veil d _ _

/-! ### Lane store -/

theorem State.emptyLane_veil (l : LaneId) (a : Active) (x : LaneState) (s : State) :
    (s.emptyLane l a x).veilLanes d = s.veilLanes d :=
  (State.veilLanes_of_probe (State.probeLeft_veil d l (s.setLane l (s.lanes[l].emptied a x)))).trans rfl

theorem State.storeSet_veil (x : Source) (l : LaneId) (c : CheckedSet) (s : State) :
    (s.storeSet x l c).veilLanes d = s.veilLanes d := by
  unfold State.storeSet
  dsimp only
  split
  · split <;> rfl
  · rfl

theorem State.storeSets_veil (x : Source) (l : LaneId) (cs : List CheckedSet) (s : State) :
    (s.storeSets x l cs).veilLanes d = s.veilLanes d :=
  forList_same (fun x : State => x.veilLanes d) _ cs s fun c _ t => State.storeSet_veil d x l c t

theorem State.failoverCheck_veil (l : LaneId) (s : State) : (s.failoverCheck l).veilLanes d = s.veilLanes d := by
  unfold State.failoverCheck
  split
  · exact (State.veilLanes_of_probe (State.raise_veil d _ _)).trans (State.emptyLane_veil d _ _ _ _)
  · rfl

theorem State.returnCheck_veil (l : LaneId) (s : State) : (s.returnCheck l).veilLanes d = s.veilLanes d := by
  unfold State.returnCheck
  split
  · exact State.emptyLane_veil d _ _ _ _
  · rfl

theorem State.onRemoval_veil (x : Source) (s : State) : (s.onRemoval x).veilLanes d = s.veilLanes d :=
  forEach_same (fun x : State => x.veilLanes d) _ s fun l t => by
    split
    · exact State.failoverCheck_veil d _ _
    · rfl

theorem State.onAddition_veil (x : Source) (s : State) : (s.onAddition x).veilLanes d = s.veilLanes d :=
  forEach_same (fun x : State => x.veilLanes d) _ s fun l t => by
    split
    · exact State.returnCheck_veil d _ _
    · rfl

theorem State.onSweepDone_veil (s : State) : s.onSweepDone.veilLanes d = s.veilLanes d :=
  forEach_same (fun x : State => x.veilLanes d) _ s fun l t =>
    (State.returnCheck_veil d l (t.failoverCheck l)).trans (State.failoverCheck_veil d l t)

theorem State.popLane_veil (p : Feed) (k : Nat) (l : LaneId) (s : State) :
    (s.popLane p k l).veilLanes d = s.veilLanes d := by
  unfold State.popLane
  dsimp only
  split
  · split
    · exact (State.veilLanes_of_probe (State.probeLeft_veil d _ _)).trans
        ((State.veilLanes_of_probe (State.raise_veil d _ _)).trans
          ((State.veilLanes_of_probe (State.probeMeasure_veil d _ _ _ _)).trans rfl))
    · exact (State.veilLanes_of_probe (State.probeMeasure_veil d _ _ _ _)).trans rfl
  · rfl

theorem State.popFeed_veil (p : Feed) (k : Nat) (s : State) : (s.popFeed p k).veilLanes d = s.veilLanes d :=
  forEach_same (fun x : State => x.veilLanes d) _ s fun l t => State.popLane_veil d p k l t

/-! ### Stream table -/

theorem State.removeWhere_veil (pick : StreamEntry → Bool) (s : State) :
    (s.removeWhere pick).veilTable d = s.veilTable d :=
  (forList_same (fun x : State => x.veilTable d) _ _ _ fun x _ t =>
    State.veilTable_of_lanes (State.onRemoval_veil d x t)).trans rfl

theorem State.takeStream_veil (x : Source) (phase mends : Nat) (s : State) :
    (s.takeStream x phase mends).veilTable d = s.veilTable d := by
  unfold State.takeStream
  split
  · rfl
  · split
    · rfl
    · split <;> rfl

theorem State.sweepTable_veil (s : State) : s.sweepTable.veilTable d = s.veilTable d := by
  unfold State.sweepTable
  refine (State.veilTable_of_lanes (State.onSweepDone_veil d _)).trans ?_
  refine (forList_same (fun x : State => x.veilTable d) _ _ _ fun x _ t =>
    State.veilTable_of_lanes (State.onRemoval_veil d x t)).trans ?_
  rfl

theorem State.settleSweep_veil (s : State) : s.settleSweep.veilTable d = s.veilTable d := by
  unfold State.settleSweep
  split
  · exact State.sweepTable_veil d _
  · rfl

theorem State.tickTable_veil (s : State) : s.tickTable.veilTable d = s.veilTable d := State.settleSweep_veil d _

theorem State.storeAll_veil (x : Source) (cs : List CheckedSet) (s : State) :
    (s.storeAll x cs).veilLanes d = s.veilLanes d :=
  forEach_same (fun x : State => x.veilLanes d) _ s fun l t => State.storeSets_veil d x l cs t

/-- What the sets and the events of a learned packet can change: lanes, probe, notices, and the count of free values. -/
theorem State.storeLearned_veil (x : Source) (gone : Option Source) (cs : List CheckedSet) (s : State) :
    (s.storeLearned x gone cs).veilTable d = s.veilTable d := by
  unfold State.storeLearned
  dsimp only
  refine (State.veilTable_of_lanes (State.storeAll_veil d _ _ _)).trans ?_
  refine (State.veilTable_of_lanes (State.onAddition_veil d _ _)).trans ?_
  refine (State.veilTable_of_lanes (State.storeAll_veil d _ _ _)).trans ?_
  cases gone with
  | none => exact (State.veilTable_of_lanes (State.storeAll_veil d _ _ _)).trans rfl
  | some y =>
    exact (State.veilTable_of_lanes (State.onRemoval_veil d _ _)).trans
      ((State.veilTable_of_lanes (State.storeAll_veil d _ _ _)).trans rfl)

theorem State.takePacket_veil (x : Source) (c : CarriagePayload) (s : State) :
    (s.takePacket x c).veilTable d = s.veilTable d := by
  unfold State.takePacket
  dsimp only
  split
  · exact (State.storeLearned_veil d _ _ _ _).trans (State.takeStream_veil d _ _ _ _)
  · exact (State.veilTable_of_lanes (State.storeAll_veil d _ _ _)).trans (State.takeStream_veil d _ _ _ _)

/-! ### Feed frame starts -/

theorem State.carriageFrameStart_veil (p : Feed) (lines : Nat) (s : State) :
    (s.carriageFrameStart p lines).veilFrame d = s.veilFrame d := by
  unfold State.carriageFrameStart
  dsimp only
  split <;> rfl

theorem State.regulate_veil (p : Feed) (s : State) : (s.regulate p).veilFrame d = s.veilFrame d :=
  forEach_same (fun x : State => x.veilFrame d) _ s fun l t => by
    unfold State.regulateLane
    dsimp only
    split <;> rfl

theorem State.routeFrameStart_veil (p : Feed) (s : State) : (s.routeFrameStart p).veilFrame d = s.veilFrame d := rfl

theorem State.feedFrameStart_veil (p : Feed) (lines : Nat) (s : State) :
    (s.feedFrameStart p lines).veilFrame d = s.veilFrame d :=
  (State.veilFrame_of_lanes (State.veilLanes_of_probe (State.probeFrameStart_veil d p _))).trans
    ((State.routeFrameStart_veil d p _).trans
      ((State.regulate_veil d p _).trans (State.carriageFrameStart_veil d p lines s)))

theorem State.setCarriage_veil (p : Feed) (x : Carriage) (s : State) :
    (s.setCarriage p x).veilFrame d = s.veilFrame d := rfl

theorem State.carriageRequest_veil (p : Feed) (k : Nat) (s : State) :
    (s.carriageRequest p k).veilFrame d = s.veilFrame d := by
  unfold State.carriageRequest
  exact (State.setCarriage_veil d p _ _).trans (State.veilFrame_of_lanes (State.popFeed_veil d p k s))

/-! ### Classifiers -/

theorem State.settleAbsence_veil (p : Feed) (e : RuleIndex) (s : State) :
    (s.settleAbsence p e).veilRules d = s.veilRules d := by
  unfold State.settleAbsence
  split <;> rfl

theorem State.settleTally_veil (p : Feed) (e : RuleIndex) (s : State) :
    (s.settleTally p e).veilRules d = s.veilRules d := by
  unfold State.settleTally
  split <;> rfl

theorem State.tickWatches_veil (s : State) : s.tickWatches.veilRules d = s.veilRules d :=
  forEach_same (fun x : State => x.veilRules d) _ s fun p t =>
    forEach_same (fun x : State => x.veilRules d) _ t fun e u => by
      unfold State.tickWatch
      dsimp only
      split
      · exact State.settleAbsence_veil d _ _ _
      · rfl

theorem State.reachWatch_veil (p : Feed) (e : RuleIndex) (s : State) : (s.reachWatch p e).veilRules d = s.veilRules d := by
  unfold State.reachWatch
  dsimp only
  split
  · rfl
  · rfl
  · exact State.settleTally_veil d _ _ _

theorem State.updateCarried_veil (p : Feed) (f : Line → Line) (s : State) :
    (s.updateCarried p f).veilPacket d = s.veilPacket d := by
  unfold State.updateCarried
  split
  · split <;> rfl
  · rfl

theorem State.handToLine_veil (p : Feed) (x : LinePacket) (s : State) :
    (s.handToLine p x).veilPacket d = s.veilPacket d := State.updateCarried_veil d p _ s

theorem State.noteSeen_veil (p : Feed) (k : Packet) (c : Decision) (s : State) :
    (s.noteSeen p k c).veilPacket d = s.veilPacket d := by
  unfold State.noteSeen
  split
  · rfl
  · split <;> rfl

theorem State.actOnDecision_veil (p : Feed) (k : Packet) (c : Decision) (s : State) :
    (s.actOnDecision p k c).veilPacket d = s.veilPacket d := by
  have h1 : ∀ t : State, ((t.noteSeen p k c).handToLine p
      { packet := k, origin := .decided c.strip k.good }).veilPacket d = t.veilPacket d := fun t =>
    (State.handToLine_veil d _ _ _).trans (State.noteSeen_veil d _ _ _ _)
  have h2 : (match c.action with
      | none => s
      | some e => s.reachWatch p e).veilPacket d = s.veilPacket d := by
    split
    · rfl
    · exact State.veilPacket_of_rules (State.reachWatch_veil d _ _ _)
  unfold State.actOnDecision
  dsimp only
  split
  · split
    · exact (h1 _).trans h2
    · exact (State.veilPacket_of_table (State.takePacket_veil d _ _ _)).trans ((h1 _).trans h2)
  · exact (h1 _).trans h2

/-! ### House ticks -/

theorem State.endLine_veil (p : Feed) (s : State) : (s.endLine p).veilTick d = s.veilTick d := by
  unfold State.endLine
  split <;> rfl

theorem State.cutLine_veil (p : Feed) (s : State) : (s.cutLine p).veilTick d = s.veilTick d := by
  unfold State.cutLine
  split
  · rfl
  · rfl
  · exact State.endLine_veil d p s

theorem State.endAtTick_veil (p : Feed) (s : State) : (s.endAtTick p).veilTick d = s.veilTick d := by
  unfold State.endAtTick
  split
  · exact State.endLine_veil d p s
  · split
    · exact State.cutLine_veil d p s
    · exact State.endLine_veil d p s

theorem State.beginGeneratedLine_veil (p : Feed) (i : Nat) (s : State) :
    (s.beginGeneratedLine p i).veilTick d = s.veilTick d := rfl

theorem State.setOutput_veil (p : Feed) (o : Output) (s : State) : (s.setOutput p o).veilTick d = s.veilTick d := rfl

theorem State.tickPath_veil (p : Feed) (s : State) : (s.tickPath p).veilTick d = s.veilTick d := by
  unfold State.tickPath
  split
  · rfl
  · dsimp only
    split
    · exact (State.veilTick_of_frame (State.feedFrameStart_veil d _ _ _)).trans
        ((State.beginGeneratedLine_veil d _ _ _).trans ((State.endAtTick_veil d _ _).trans rfl))
    · exact (State.setOutput_veil d _ _ _).trans ((State.cutLine_veil d _ _).trans rfl)

theorem TickConsumer.act_veil (c : TickConsumer) (s : State) : (c.act s).veilTick d = s.veilTick d := by
  cases c with
  | table => exact State.veilTick_of_table (State.tickTable_veil d s)
  | probe => exact State.veilTick_of_table (State.veilTable_of_lanes (State.veilLanes_of_probe (State.probeTick_veil d s)))
  | path p => exact State.tickPath_veil d p s

theorem tickConsumers_veil (l : List TickConsumer) (s : State) :
    (forList TickConsumer.act l s).veilTick d = s.veilTick d :=
  forList_same (fun x : State => x.veilTick d) _ l s fun c _ t => c.act_veil d t

end

/-! ### Cuts of output lines (R131) -/

/-- A cut changes only the words written on its output. -/
theorem State.cutLine_frame (p : Feed) (s : State) : s.cutLine p = { s with written := (s.cutLine p).written } := by
  unfold State.cutLine State.endLine
  split <;> (try split) <;> rfl

/-- The words that a cut leaves on its output. -/
theorem State.cutLine_written (p : Feed) (s : State) : (s.cutLine p).written[p] = match s.outputs[p] with
    | .dark => s.written[p]
    | .line l => (l.words (Config.blackWords p s.now)).take (Config.wordsWritten p s.now)
    | .blackRun ws => ws ++ List.replicate (Config.blackWords p s.now) blackWord := by
  unfold State.cutLine State.endLine
  cases h : s.outputs[p] <;> simp [State.setWritten, Output.words]

theorem State.cutLine_written_other {p q : Feed} (h : q ≠ p) (s : State) :
    (s.cutLine p).written[q] = s.written[q] := by
  unfold State.cutLine State.endLine
  split <;> (try split) <;> first | rfl | exact State.setWritten_other _ _ _ h

/-- RESTART's cuts change only the words written. -/
theorem State.cutLines_frame (s : State) : s.cutLines = { s with written := s.cutLines.written } :=
  forEach_keeps (fun t => t = { s with written := t.written }) State.cutLine s rfl fun p t h => by
    rw [State.cutLine_frame p t]
    exact congrArg (fun u : State => { u with written := (t.cutLine p).written }) h

/-- The words that RESTART's cuts leave on an output (R131). -/
theorem State.cutLines_written (p : Feed) (s : State) : s.cutLines.written[p] = (s.cutLine p).written[p] :=
  forEach_at (fun t => t.written[p]) (fun t => (t.outputs, t.now)) State.cutLine s p _
    (fun j t h => State.cutLine_written_other (Ne.symm h) t)
    (fun j t => by rw [State.cutLine_frame j t])
    fun t hk hv => by
      have ho := (Prod.mk.injEq _ _ _ _ ▸ hk).1
      have hn := (Prod.mk.injEq _ _ _ _ ▸ hk).2
      rw [State.cutLine_written, State.cutLine_written, ho, hn, hv]

end Sys2Proof.Machine
end

