-- ==== Sys2Proof/Laws/Control.lean ====
section
/-! SUPPORT. The control channel: what taking a command, executing the head of the command queue and running the queue
come to in each of their cases, and what the execution of a decoded command can change. -/

namespace Sys2Proof.Machine

/-! ### Taking and executing -/

/-- An empty command queue has nothing to run. -/
theorem State.runQueue_empty {s : State} (h : s.commandQueue = []) : s.runQueue = s := by
  simp [State.runQueue, h, State.executeHeads]

/-- A head that must wait for reply room stays, however many turns it gets (R151). -/
theorem State.executeHeads_stalled {s : State} {c : Command} {rest : List Command} (h : s.commandQueue = c :: rest)
    (hb : c.broadcast = false) (hr : 8 ≤ s.replyQueue.length) (n : Nat) : s.executeHeads n = s := by
  induction n with
  | zero => rfl
  | succ n ih =>
    have hs : s.executeHead = s := by
      have : ¬ s.replyQueue.length < 8 := by omega
      simp [State.executeHead, h, hb, this]
    simpa [State.executeHeads, hs] using ih

/-- A command that finds no command waiting and reply room executes at once (R151). -/
theorem State.submit_ready {s : State} (h : s.Ready) (c : Command) (hb : c.broadcast = false) :
    s.submit c = s.executeCommand c := by
  obtain ⟨hq, hr⟩ := h
  have hs : ({ s with commandQueue := [] } : State) = s := by rw [← hq]
  simp [State.submit, State.takeCommand, hq, State.runQueue, State.executeHeads, State.executeHead, hb, hr, hs]

/-- A broadcast that finds no command waiting executes or is discarded at once (R152). -/
theorem State.submit_broadcast {s : State} (hq : s.commandQueue = []) (c : Command) (hb : c.broadcast = true) :
    s.submit c = s.executeBroadcast c := by
  have hs : ({ s with commandQueue := [] } : State) = s := by rw [← hq]
  simp [State.submit, State.takeCommand, hq, State.runQueue, State.executeHeads, State.executeHead, hb, hs]

/-- A command of this part that executes at once and is answered without a change of the block (R16, R151). -/
theorem State.submit_answered {s : State} (h : s.Ready) (tag : Field) (fields : List Nat) {t : State}
    {code : OutcomeCode} {results : List Nat}
    (ha : s.judge (s.ownCommand (tag.toNat :: fields)) = { state := t, code := code, results := results })
    (hd : t.deviceAddress = s.deviceAddress) :
    s.submit (s.ownCommand (tag.toNat :: fields)) = t.answered tag code.code results := by
  rw [State.submit_ready h _ rfl]
  unfold State.executeCommand
  simp only [ha]
  simp [State.answered, replyTo, State.ownCommand, Command.tag, hd]

/-! ### What a decoded command can change -/

/-- Every command but RESTART keeps both queues, the device address, the model's own fields and the receive
states (R151, R160). -/
theorem State.perform_keeps (s : State) (op : Op) (h : op ≠ .restart) :
    (s.perform op).state.commandQueue = s.commandQueue ∧ (s.perform op).state.replyQueue = s.replyQueue ∧
      (s.perform op).state.deviceAddress = s.deviceAddress ∧ (s.perform op).state.pending = s.pending ∧
      (s.perform op).state.now = s.now ∧ (s.perform op).state.ports = s.ports := by
  have he : ∀ l a x, ∀ t : State, (t.emptyLane l a x).commandQueue = t.commandQueue ∧
      (t.emptyLane l a x).replyQueue = t.replyQueue ∧ (t.emptyLane l a x).deviceAddress = t.deviceAddress ∧
      (t.emptyLane l a x).pending = t.pending ∧ (t.emptyLane l a x).now = t.now ∧
      (t.emptyLane l a x).ports = t.ports := fun l a x t =>
    ⟨(congrArg State.commandQueue (State.emptyLane_veil t l a x t) :),
      (congrArg State.replyQueue (State.emptyLane_veil t l a x t) :),
      (congrArg State.deviceAddress (State.emptyLane_veil t l a x t) :),
      (congrArg State.pending (State.emptyLane_veil t l a x t) :), (congrArg State.now (State.emptyLane_veil t l a x t) :),
      (congrArg State.ports (State.emptyLane_veil t l a x t) :)⟩
  cases op with
  | restart => exact absurd rfl h
  | readRule i => simp only [State.perform, State.readRule]; split <;> simp [refuse, found]
  | readLane i => simp only [State.perform, State.readLane]; split <;> simp [refuse, found]
  | readRouteShadow i => simp only [State.perform, State.readRouteShadow]; split <;> simp [refuse, found]
  | readRouteLive i => simp only [State.perform, State.readRouteLive]; split <;> simp [refuse, found]
  | readStream i => simp only [State.perform, State.readStream]; split <;> simp [refuse, found]
  | readPath i => simp only [State.perform, State.readPath]; split <;> simp [refuse, found]
  | readProbe i => simp only [State.perform, State.readProbe]; split <;> simp [refuse, found]
  | readSettings i => simp only [State.perform, State.readSettings]; split <;> simp [refuse, found]
  | writeRule i w =>
    simp only [State.perform, State.writeRule]
    split
    · simp [refuse]
    · split <;> simp [refuse, stored]
  | writeLane i w =>
    simp only [State.perform, State.writeLane]
    split
    · simp [refuse]
    · split
      · simp [refuse]
      · split
        · simp [refuse]
        · simp only [stored, State.storeDescriptor]
          split
          · exact he _ _ _ _
          · simp
  | writeRouteShadow i w =>
    simp only [State.perform, State.writeRouteShadow]
    split
    · simp [refuse]
    · split
      · simp [refuse]
      · split
        · simp [refuse]
        · split <;> simp [refuse, stored]
  | writePath i w =>
    simp only [State.perform, State.writePath]
    split
    · simp [refuse]
    · split
      · simp [refuse]
      · simp only [stored]; split <;> simp
  | writeSettings i w =>
    simp only [State.perform, State.writeSettings]
    split
    · split <;> simp [refuse, stored]
    · simp [refuse]
  | swapRoutes feeds =>
    simp only [State.perform, State.swapRoutes]
    split
    · simp only [done, State.armSwaps]
      refine ⟨?_, ?_, ?_, ?_, ?_, ?_⟩ <;>
        exact forEach_same _ _ s fun p t => by split <;> rfl
    · simp [refuse]
  | copyLive feed =>
    simp only [State.perform, State.copyLive]
    split
    · simp [refuse]
    · split <;> simp [refuse, done]
  | flushLane lane =>
    simp only [State.perform, State.flushLane]
    split
    · simp [refuse]
    · split
      · simp [done]
      · exact he _ _ _ _
  | returnPrimary lane =>
    simp only [State.perform, State.returnPrimary]
    split
    · simp [refuse]
    · split
      · simp [done]
      · split
        · exact he _ _ _ _
        · simp [refuse]
  | resume feed =>
    simp only [State.perform, State.resumePath]
    split
    · simp [refuse]
    · split <;> simp [refuse, done]
  | clearStreams =>
    have hv := fun d => State.removeWhere_veil d (fun _ => true) s
    exact ⟨(congrArg State.commandQueue (hv s) :), (congrArg State.replyQueue (hv s) :), (congrArg State.deviceAddress (hv s) :),
      (congrArg State.pending (hv s) :), (congrArg State.now (hv s) :), (congrArg State.ports (hv s) :)⟩
  | readStatus cursor => simp only [State.perform, State.readStatus]; split <;> simp [refuse, found]
  | clearNotice kind subject generation =>
    simp only [State.perform, State.clearNotice]
    split
    · simp [refuse]
    · split
      · simp [refuse]
      · split
        · simp [done]
        · split
          · simp [refuse]
          · split <;> simp [refuse, done]
  | probeStart mode first last trigger =>
    simp only [State.perform, State.startProbe]
    split <;> simp [refuse, done]
  | probeStop => simp [State.perform, State.stopProbe, done]

/-! ### The receive states (R2, R161) -/

theorem State.executeCommand_ports (c : Command) (s : State) :
    (s.executeCommand c).ports = s.ports ∨ (s.executeCommand c).ports = State.reset.ports := by
  show (s.judge c).state.ports = s.ports ∨ (s.judge c).state.ports = State.reset.ports
  unfold State.judge
  split
  · exact .inl rfl
  · rename_i op _
    by_cases h : op = .restart
    · subst h
      exact .inr rfl
    · exact .inl (State.perform_keeps s op h).2.2.2.2.2

theorem State.executeBroadcast_ports (c : Command) (s : State) : (s.executeBroadcast c).ports = s.ports := by
  unfold State.executeBroadcast
  split
  · rfl
  · exact forEach_same State.ports _ s fun p t => by split <;> rfl

theorem State.executeHead_ports (s : State) :
    s.executeHead.ports = s.ports ∨ s.executeHead.ports = State.reset.ports := by
  unfold State.executeHead
  split
  · exact .inl rfl
  · split
    · exact .inl (State.executeBroadcast_ports _ _)
    · split
      · exact State.executeCommand_ports _ _
      · exact .inl rfl

/-- Running the command queue leaves the receive states, or puts them at their reset values. -/
theorem State.executeHeads_ports (n : Nat) (s : State) :
    (s.executeHeads n).ports = s.ports ∨ (s.executeHeads n).ports = State.reset.ports := by
  induction n generalizing s with
  | zero => exact .inl rfl
  | succ n ih =>
    rcases ih s.executeHead with h | h
    · exact (State.executeHead_ports s).imp h.trans h.trans
    · exact .inr h

/-- A complete packet leaves the receive states, or, by a RESTART, puts them at their reset values. -/
theorem State.packetArrives_ports (p : Feed) (k : Packet) (s : State) :
    (s.packetArrives p k).ports = s.ports ∨ (s.packetArrives p k).ports = State.reset.ports := by
  unfold State.packetArrives
  split
  · unfold State.commandArrives State.submit State.runQueue
    dsimp only
    have take : ∀ (c : Command) (t : State), (t.takeCommand c).ports = t.ports := fun c t => by
      unfold State.takeCommand
      split <;> rfl
    have hand : (if s.leftOnFeed (Command.ofPayload k.payload k.good) = true then
        s.handToLine p { packet := k, origin := .leftCommand } else s).ports = s.ports := by
      split
      · exact (congrArg State.ports (State.handToLine_veil s p _ s) :)
      · rfl
    exact (State.executeHeads_ports _ _).imp (fun h => h.trans ((take _ _).trans hand)) id
  · exact .inl (congrArg State.ports (State.actOnDecision_veil s p k _ s) :)

end Sys2Proof.Machine
end

