-- ==== Sys2Proof/Laws/Operands.lean ====
section
/-! SUPPORT. The operand forms of R18 and R19: each code reads back as what it names, and a number outside its list or
range names nothing. -/

namespace Sys2Proof.Machine

theorem index?_val {n v : Nat} (i : Fin n) (h : v = i.val) : index? n v = some i := by
  have := i.isLt
  unfold index?
  rw [dif_pos (by omega)]
  simp [h]

theorem index?_outside {n v : Nat} (h : n ≤ v) : index? n v = none := by
  unfold index?
  rw [dif_neg (by omega)]

theorem slotIndex?_val {v : Nat} (p : Feed) (x : Slot) (h : v = 8 * p.val + x.val) : slotIndex? v = some (p, x) := by
  have := p.isLt
  have := x.isLt
  unfold slotIndex?
  rw [if_pos (by omega)]
  simp only [Option.some.injEq, Prod.mk.injEq, Fin.ext_iff, Fin.ofNat]
  omega

theorem slotIndex?_outside {v : Nat} (h : 64 ≤ v) : slotIndex? v = none := by
  unfold slotIndex?
  rw [if_neg (by omega)]

theorem ruleIndex?_val {v : Nat} (p : Feed) (e : RuleIndex) (h : v = 16 * p.val + e.val) :
    ruleIndex? v = some (p, e) := by
  have := p.isLt
  have := e.isLt
  unfold ruleIndex?
  rw [if_pos (by omega)]
  simp only [Option.some.injEq, Prod.mk.injEq, Fin.ext_iff, Fin.ofNat]
  omega

theorem ruleIndex?_outside {v : Nat} (h : 128 ≤ v) : ruleIndex? v = none := by
  unfold ruleIndex?
  rw [if_neg (by omega)]

theorem yesNo?_code {v : Nat} (b : Bool) (h : v = yesNo b) : yesNo? v = some b := by
  subst h
  cases b <;> rfl

theorem yesNo?_outside {v : Nat} (h : 2 ≤ v) : yesNo? v = none := by
  unfold yesNo?
  rw [if_neg (by omega), if_neg (by omega)]

theorem source?_code {v : Nat} (x : Option Source) (h : v = sourceCode x) : source? v = some x := by
  subst h
  cases x with
  | none => rfl
  | some y =>
    have := y.feed.isLt
    have := y.slot.isLt
    have hc : sourceCode (some y) = 8 * y.feed.val + y.slot.val := rfl
    unfold source?
    rw [hc, if_neg (by omega), if_pos (by omega)]
    obtain ⟨f, s⟩ := y
    simp only [Option.some.injEq, Source.mk.injEq, Fin.ext_iff, Fin.ofNat] at *
    omega

theorem source?_outside {v : Nat} (h : v ≠ 255) (h' : 64 ≤ v) : source? v = none := by
  unfold source?
  rw [if_neg h, if_neg (by omega)]

theorem laneRef?_code {v : Nat} (x : Option LaneId) (h : v = laneCode x) : laneRef? v = some x := by
  subst h
  cases x with
  | none => rfl
  | some l =>
    have := l.isLt
    have hc : laneCode (some l) = l.val := rfl
    unfold laneRef?
    rw [hc, if_neg (by omega), index?_val l rfl]
    rfl

theorem laneRef?_outside {v : Nat} (h : 32 ≤ v) (h' : v ≠ 255) : laneRef? v = none := by
  unfold laneRef?
  rw [if_neg h', index?_outside h]
  rfl

theorem mode?_code {v : Nat} (x : Mode) (h : v = x.code) : mode? v = some x := by
  subst h
  cases x <;> rfl

theorem mode?_outside {v : Nat} (h : 2 ≤ v) : mode? v = none := by
  unfold mode?
  split <;> first | omega | rfl

theorem matchField?_code {v : Nat} (x : MatchField) (h : v = x.code) : matchField? v = some x := by
  subst h
  cases x <;> rfl

theorem matchField?_outside {v : Nat} (h : 3 ≤ v) : matchField? v = none := by
  unfold matchField?
  split <;> first | omega | rfl

theorem compare?_code {v : Nat} (x : Compare) (h : v = x.code) : compare? v = some x := by
  subst h
  cases x <;> rfl

theorem compare?_outside {v : Nat} (h : 2 ≤ v) : compare? v = none := by
  unfold compare?
  split <;> first | omega | rfl

theorem watchMode?_code {v : Nat} (x : WatchMode) (h : v = x.code) : watchMode? v = some x := by
  subst h
  cases x <;> rfl

theorem watchMode?_outside {v : Nat} (h : 3 ≤ v) : watchMode? v = none := by
  unfold watchMode?
  split <;> first | omega | rfl

theorem channelMap?_code {v : Nat} (x : ChannelMap) (h : v = x.code) : channelMap? v = some x := by
  subst h
  cases x <;> rfl

theorem channelMap?_outside {v : Nat} (h : 5 ≤ v) : channelMap? v = none := by
  unfold channelMap?
  split <;> first | omega | rfl

theorem policy?_code {v : Nat} (x : Policy) (h : v = x.code) : policy? v = some x := by
  subst h
  cases x <;> rfl

theorem policy?_outside {v : Nat} (h : 2 ≤ v) : policy? v = none := by
  unfold policy?
  split <;> first | omega | rfl

theorem probeMode?_outside {v : Nat} (h : 4 ≤ v) : probeMode? v = none := by
  unfold probeMode?
  split <;> first | omega | rfl

theorem trigger?_outside {v : Nat} (h : 2 ≤ v) : trigger? v = none := by
  unfold trigger?
  split <;> first | omega | rfl

theorem outside_false {lo hi v : Nat} (h : lo ≤ v) (h' : v ≤ hi) : outside lo hi v = false := by
  simp [outside, h, h']

theorem outside_true {lo hi v : Nat} (h : v < lo ∨ hi < v) : outside lo hi v = true := by
  simpa [outside] using h

end Sys2Proof.Machine
end

