-- ==== Sys2Proof/Laws/Words.lean ====
section
/-! SUPPORT. Words arriving at an input port: recognition over joined words, runs of ordinary words, and the words of one
packet. -/

namespace Sys2Proof.Machine

/-! ### Recognition (R1) -/

/-- Recognition over joined words goes on from what is held back of the first. -/
theorem recogniseAll_append (h : Held) (a b : List FeedWord) :
    recogniseAll h (a ++ b) =
      ((recogniseAll h a).1 ++ (recogniseAll (recogniseAll h a).2 b).1, (recogniseAll (recogniseAll h a).2 b).2) := by
  induction a generalizing h with
  | nil => simp [recogniseAll]
  | cons w a ih => simp [recogniseAll, ih, List.append_assoc]

/-! ### Words one after another -/

theorem forList_append {α : Type} (f : α → State → State) (a b : List α) (s : State) :
    forList f (a ++ b) s = forList f b (forList f a s) := List.foldl_append

theorem State.wordsArrive_append (p : Feed) (a b : List FeedWord) (s : State) :
    s.wordsArrive p (a ++ b) = (s.wordsArrive p a).wordsArrive p b := forList_append _ a b s

/-- A port that holds nothing back stands when it is told to hold nothing back. -/
theorem State.hold_nothing {p : Feed} {s : State} (h : s.ports[p].held = .nothing) : s.hold p .nothing = s := by
  have hp : ({ s.ports[p] with held := .nothing } : Port) = s.ports[p] := by rw [← h]
  unfold State.hold State.setPort
  rw [hp]
  simp

/-! ### Ordinary words -/

theorem State.updateCarried_ports (p : Feed) (f : Line → Line) (s : State) : (s.updateCarried p f).ports = s.ports :=
  (congrArg State.ports (State.updateCarried_veil s p f s) :)

/-- An ordinary word leaves a port that holds nothing back holding nothing back. -/
theorem State.plainWord_held {p : Feed} (w : FeedWord) {s : State} (h : s.ports[p].held = .nothing) :
    (s.plainWord p w).ports[p].held = .nothing := by
  unfold State.plainWord
  split
  · exact h
  · unfold State.blankingWord
    dsimp only
    have hs : ∀ r, ((s.updateCarried p fun l => { l with blanking := l.blanking + 1 }).setPort p
        { (s.updateCarried p fun l => { l with blanking := l.blanking + 1 }).ports[p] with reader := r }).ports[p].held =
          .nothing := fun r => by
      rw [State.setPort_same, State.updateCarried_ports]
      exact h
    split
    · exact hs _
    · rcases State.packetArrives_ports p _ ((s.updateCarried p fun l => { l with blanking := l.blanking + 1 }).setPort p
        { (s.updateCarried p fun l => { l with blanking := l.blanking + 1 }).ports[p] with
          reader := (readWord (s.updateCarried p fun l => { l with blanking := l.blanking + 1 }).ports[p].reader w).1 }) with
        e | e
      · rw [e]
        exact hs _
      · rw [e]
        simp [State.reset, portReset]
  · exact (congrArg (fun v : Vector Port 8 => v[p].held) (State.updateCarried_ports p _ s)).trans h

theorem plainWords_held {p : Feed} (ws : List FeedWord) {s : State} (h : s.ports[p].held = .nothing) :
    (forList (State.plainWord p) ws s).ports[p].held = .nothing :=
  forList_keeps (fun t => t.ports[p].held = .nothing) _ ws s h fun w _ _ ht => State.plainWord_held w ht

/-- The ordinary words among what recognition made of words. -/
def plainOf (ts : List (FeedWord ⊕ Mark)) : List FeedWord := ts.filterMap Sum.getLeft?

/-- Words that spell no mark arrive as ordinary words, those of an earlier beginning first; what they end in is held back. -/
theorem State.wordsArrive_noMark {p : Feed} (ws : List FeedWord) {s : State} {h : Held} (hs : s.ports[p].held = .nothing)
    (hm : (recogniseAll h ws).1.all Sum.isLeft = true) :
    (s.hold p h).wordsArrive p ws =
      (forList (State.plainWord p) (plainOf (recogniseAll h ws).1) s).hold p (recogniseAll h ws).2 := by
  induction ws generalizing s h with
  | nil => simp [State.wordsArrive, forList, recogniseAll, plainOf]
  | cons w ws ih =>
    have hold2 : ∀ a b : Held, ∀ t : State, (t.hold p a).hold p b = t.hold p b := fun a b t => by
      simp [State.hold, State.setPort]
    have hh : (s.hold p h).ports[p].held = h := by simp [State.hold]
    simp only [recogniseAll, List.all_append, Bool.and_eq_true] at hm
    obtain ⟨⟨-, hmark⟩, hrest⟩ := hm
    have hmark : (recognise h w).mark = none := by
      cases e : (recognise h w).mark with
      | none => rfl
      | some m => simp [e] at hmark
    have step : (s.hold p h).wordArrives p w =
        (forList (State.plainWord p) (recognise h w).plain s).hold p (recognise h w).held := by
      unfold State.wordArrives
      simp only [hh, hmark, hold2, State.hold_nothing hs]
    show ((s.hold p h).wordArrives p w).wordsArrive p ws = _
    rw [step, ih (plainWords_held _ hs) hrest]
    simp only [recogniseAll, hmark, plainOf, List.filterMap_append, forList_append]
    simp [List.filterMap_map, Function.comp_def, forList]

/-- What recognition makes of words, spelled out again, is the words. -/
theorem recogniseAll_words (h : Held) (ws : List FeedWord) :
    (recogniseAll h ws).1.flatMap (fun t => t.elim (fun w => [w]) Mark.words) ++ (recogniseAll h ws).2.words =
      h.words ++ ws := by
  have mark : ∀ w m, mark? w = some m → Mark.words m = [0x3FE#10, 0x001#10, w] := by
    intro w m e
    unfold mark? at e
    split at e
    · obtain rfl := Option.some.inj e; subst w; rfl
    · split at e
      · obtain rfl := Option.some.inj e; subst w; rfl
      · split at e
        · obtain rfl := Option.some.inj e; subst w; rfl
        · cases e
  have fresh : ∀ b w, (recogniseFresh b w).mark = none ∧
      (recogniseFresh b w).plain ++ (recogniseFresh b w).held.words = b ++ [w] := by
    intro b w
    unfold recogniseFresh
    split
    · rename_i e; subst e; exact ⟨rfl, rfl⟩
    · exact ⟨rfl, List.append_nil _⟩
  have one : ∀ (h : Held) w, (recognise h w).plain ++ ((recognise h w).mark.map Mark.words).getD [] ++
      (recognise h w).held.words = h.words ++ [w] := by
    intro h w
    cases h with
    | nothing =>
      have e := (fresh [] w).2
      simp only [recognise, (fresh [] w).1, Option.map_none, Option.getD_none, List.append_nil]
      exact e
    | first =>
      unfold recognise
      dsimp only
      split
      · rename_i e; subst e; rfl
      · simp only [(fresh _ _).1]; simpa using (fresh _ _).2
    | second =>
      unfold recognise
      dsimp only
      split
      · rename_i e; simp [mark _ _ e, Held.words]
      · simp only [(fresh _ _).1]; simpa using (fresh _ _).2
  induction ws generalizing h with
  | nil => simp [recogniseAll]
  | cons w ws ih =>
    have hp : ∀ l : List FeedWord, (l.map (Sum.inl (β := Mark))).flatMap
        (fun t => t.elim (fun w => [w]) Mark.words) = l := fun l => by
      induction l with
      | nil => rfl
      | cons a l ihl => simp [ihl]
    have hm : ((recognise h w).mark.map (Sum.inr (α := FeedWord))).toList.flatMap
        (fun t => t.elim (fun w => [w]) Mark.words) = ((recognise h w).mark.map Mark.words).getD [] := by
      cases (recognise h w).mark <;> simp
    simp only [recogniseAll, List.flatMap_append, hp, hm]
    rw [List.append_assoc, ih, ← List.append_assoc, one]
    simp

/-- Words that are ordinary to the last arrive as ordinary words. -/
theorem State.wordsArrive_plain {p : Feed} {ws : List FeedWord} {s : State} (hs : s.ports[p].held = .nothing)
    (hw : plainWords ws = true) : s.wordsArrive p ws = forList (State.plainWord p) ws s := by
  simp only [plainWords, Bool.and_eq_true, beq_iff_eq] at hw
  have h := State.wordsArrive_noMark ws hs hw.1
  rw [State.hold_nothing hs, hw.2, State.hold_nothing (plainWords_held _ hs)] at h
  have e : plainOf (recogniseAll .nothing ws).1 = ws := by
    have r := recogniseAll_words .nothing ws
    rw [hw.2] at r
    simp only [Held.words, List.append_nil, List.nil_append] at r
    refine Eq.trans ?_ r
    have : ∀ l : List (FeedWord ⊕ Mark), l.all Sum.isLeft = true →
        plainOf l = l.flatMap fun t => t.elim (fun w => [w]) Mark.words := fun l => by
      induction l with
      | nil => intro _; rfl
      | cons t l ih =>
        intro hl
        simp only [List.all_cons, Bool.and_eq_true] at hl
        cases t with
        | inl w => simpa [plainOf] using ih hl.2
        | inr m => exact absurd hl.1 (by simp)
    exact this _ hw.1
  rw [h, e]

/-! ### Where the picture mark of a line ends (R5) -/

/-- A packet occupies span + 5 words. -/
@[simp] theorem Packet.words_length (k : Packet) : k.words.length = k.size := by
  simp [Packet.words, packetTail, leadMarks, Packet.size, Packet.span]

@[simp] theorem packetWords_length (ps : List Packet) : (packetWords ps).length = packetsSize ps := by
  simp [packetWords, packetsSize]

@[simp] theorem Line.markerWords_length (l : Line) : l.markerWords.length = 3 := by
  unfold Line.markerWords; split <;> rfl

/-- The picture mark ends three words behind the marker and the blanking space, which packets may lengthen (R5). -/
theorem Line.markEnd_eq (l : Line) : l.markEnd = 3 + max l.blanking (packetsSize l.placed) + 3 := by
  simp [Line.markEnd, Line.openingWords, Line.blankingWords, pictureMarkWords]; omega

end Sys2Proof.Machine
end

