-- ==== Sys2Proof/Tests/Slice0.lean ====
section
/-! SUPPORT. Tests: the ill-formed terms that WellFormed refuses, single steps against the spec's worked examples and tables
(each test names its source), and for every statement of Certificates/Slice0 a state that meets its hypotheses. -/

namespace Sys2Proof.Tests

set_option Elab.async false

open Sys2Proof Sys2Proof.Machine

/-! ### Helpers -/

/-- The state that a command answers. -/
def after (c : Instr) (s : State) : State :=
  match exec c s with
  | .next t => t
  | _ => s

/-- The fields of the replies that wait. -/
def replies (s : State) : List (List Nat) := s.replyQueue.map Reply.fields

/-- A path in FOLLOW under NORMAL. -/
def followPath : Path := { pathReset with requested := .normal, inForce := .normal, timing := .follow }

/-- A port in a blanking space that has read the lead marks of a packet. -/
def readingPort : Port :=
  { sync := .blanking, lineCount := 9, framesSeen := 2, measuredL := some 1125, reader := leadMarks,
    held := .nothing }

/-- A carried line of index 3 with 268 words of room, a blanking space of 268 words, and no packets. -/
def plainLine : Line :=
  { index := 3, frameMarker := false, generated := false, room := 268, packets := [], made := 0, replies := false,
    placed := [], blanking := 268, picture := some [] }

/-- A lane that runs with one set, on stream (2, 0), draining to feed 0. -/
def runningLane : Lane :=
  { laneReset with primary := some { feed := 2, slot := 0 }, state := .running, fifo := [{ left := 1000000, right := -3 }] }

/-- A stream just learned. -/
def entryOf (feed : Feed) (slot : Slot) : StreamEntry := learnedEntry { feed := feed, slot := slot } 0 0

/-- The part after reset with stream (2, 0) in the table at index 0. -/
def knowsStream : State := { State.reset.setStream 0 (some (entryOf 2 0)) with tableCount := 1 }

/-- Eight replies wait. -/
def fullReplies : List Reply := List.replicate 8 { fields := [0, 0, 0] }

/-- A READ_ENTRY of SETTINGS for the part, as it waits in the command queue. -/
def waitingRead : Command := { fields := [0, 7, 1, 8, 0], ragged := false, sumGood := true, broadcast := false }

/-! ### WellFormed refuses what cannot happen -/

theorem test_wf_refuses_long_payload :
    (Instr.packetComplete (.bare 0) 0x70#8 (List.replicate 256 0#10) 0#10).wellFormed = false := by decide +kernel

theorem test_wf_admits_longest_payload :
    (Instr.packetComplete (.bare 0) 0x70#8 (List.replicate 255 0#10) 0#10).wellFormed = true := by decide +kernel

/-- A line marker inside a payload (R1). -/
theorem test_wf_refuses_marker_in_payload :
    (Instr.packetComplete (.bare 0) 0x70#8 [0x3FE#10, 0x001#10, 0x0A5#10] 0#10).wellFormed = false := by decide +kernel

/-- A marker is a row of its own; a picture mark among the words before a row is admitted. -/
theorem test_wf_refuses_marker_before_a_row :
    (Instr.lineMarker { port := 0, before := frameMarkerWords, behind := [] } 0).wellFormed = false ∧
      (Instr.packetBegins { port := 0, before := [], behind := lineMarkerWords }).wellFormed = false ∧
      (Instr.lineMarker { port := 0, before := pictureMarkWords, behind := [] } 0).wellFormed = true := by decide +kernel

theorem test_wf_refuses_good_header : (Instr.malformedHeader (.bare 0) 0x0FF#10 0x0FF#10).wellFormed = false := by decide +kernel

theorem test_wf_admits_bad_header : (Instr.malformedHeader (.bare 0) 0x0FF#10 0x100#10).wellFormed = true := by decide +kernel

theorem test_wf_refuses_long_write :
    (Instr.writeEntryUnwritable 0 .stream (List.replicate 82 0)).wellFormed = false := by decide +kernel

theorem test_wf_refuses_long_bad_command :
    (Instr.badCommand (List.replicate 253 0#10) false).wellFormed = false := by decide +kernel

/-- CLEAR-STREAMS decodes, so it is no BAD_COMMAND. -/
theorem test_wf_refuses_bad_command_that_decodes :
    (Instr.badCommand [9#10, 0#10, 0#10, 8#10, 0#10, 0#10] true).wellFormed = false := by decide +kernel

theorem test_wf_admits_bad_sum :
    (Instr.badCommand [9#10, 0#10, 0#10, 8#10, 0#10, 0#10] false).wellFormed = true := by decide +kernel

theorem test_wf_refuses_long_broadcast :
    (Instr.broadcastDiscard (List.replicate 253 0#10) false).wellFormed = false := by decide +kernel

/-- A broadcast SWAP-ROUTES of feed set 8 executes, so it is not discarded. -/
theorem test_wf_refuses_broadcast_that_executes :
    (Instr.broadcastDiscard [9#10, 0#10, 0#10, 3#10, 0#10, 0#10, 8#10, 0#10, 0#10] true).wellFormed = false := by
  decide +kernel

/-! ### Words (chapter 1) -/

/-- The sample sums under R7. -/
theorem test_sample_sums :
    sumWord 0x63#8 [] = 0x063#10 ∧ sumWord 0x20#8 [0x3FF#10, 0x3FF#10] = 0x020#10 ∧
      sumWord 0x6F#8 [0x300#10] = 0x370#10 := by decide +kernel

/-- The sample encodings under R13. -/
theorem test_sample_words :
    writeSample 0 = [0x000#10, 0x000#10, 0x000#10] ∧ writeSample 1000000 = [0x040#10, 0x042#10, 0x10F#10] ∧
      writeSample (-3) = [0x0FD#10, 0x0FF#10, 0x1FF#10] ∧ writeSample 8388607 = [0x0FF#10, 0x0FF#10, 0x17F#10] ∧
      writeSample (-8388608) = [0x000#10, 0x000#10, 0x180#10] := by decide +kernel

/-- The carriage packet of section 1.3.1. -/
theorem test_carriage_packet_words :
    (carriagePacket 2 3 [{ left := 1000000, right := -3 }]).words =
      [0x2AA#10, 0x155#10, 0x060#10, 0x007#10, 0x0CA#10, 0x040#10, 0x042#10, 0x10F#10, 0x0FD#10, 0x0FF#10, 0x1FF#10,
        0x2BD#10] := by decide +kernel

/-- The same packet with the right high word 0FFh and the sum 1BDh: the sum is good and the right sample fails. -/
theorem test_failing_sample :
    (Packet.good { kind := 0x60#8, payload := [0x0CA#10, 0x040#10, 0x042#10, 0x10F#10, 0x0FD#10, 0x0FF#10, 0x0FF#10],
                   sum := 0x1BD#10 }) = true ∧
      readSample 0x0FD#10 0x0FF#10 0x0FF#10 = { value := -3, passes := false } := by decide +kernel

/-- Data bytes and flags of 10Fh and 2AAh (section 1.1). -/
theorem test_data_bytes_and_flags :
    dataByte 0x10F#10 = 15 ∧ wordFlag 0x10F#10 = 1 ∧ dataByte 0x2AA#10 = 170 ∧ wordFlag 0x2AA#10 = 0 := by decide +kernel

/-- A line lengthened by its packets, with its picture, and a generated one with idle and black words (R5). -/
theorem test_line_words :
    (Line.words { plainLine with frameMarker := true, placed := [makePacket 0x20#8 []], blanking := 2
                                 picture := some [0x123#10] } 7) =
      [0x3FE#10, 0x001#10, 0x15A#10, 0x2AA#10, 0x155#10, 0x020#10, 0x000#10, 0x020#10, 0x3FE#10, 0x001#10, 0x0C3#10,
        0x123#10] ∧
    (Line.words { plainLine with generated := true, blanking := 2 } 1) =
      [0x3FE#10, 0x001#10, 0x0A5#10, 0x080#10, 0x080#10, 0x3FE#10, 0x001#10, 0x0C3#10, 0x040#10] := by decide +kernel

/-! ### Marks among words (R1) -/

/-- The run 3FEh, 3FEh, 001h, 0A5h is a line marker that begins at the second word. -/
theorem test_marker_behind_3FE :
    recogniseAll .nothing [0x3FE#10, 0x3FE#10, 0x001#10, 0x0A5#10] = ([.inl 0x3FE#10, .inr .line], .nothing) := by
  decide +kernel

/-- A type word of any other value leaves three ordinary words. -/
theorem test_other_type :
    recogniseAll .nothing [0x3FE#10, 0x001#10, 0x0A6#10] =
      ([.inl 0x3FE#10, .inl 0x001#10, .inl 0x0A6#10], .nothing) := by decide +kernel

/-- A line marker inside a packet being read cuts it (R4, R10). -/
theorem test_marker_cuts_packet :
    ((State.reset.setPort 1 readingPort).wordsArrive 1 [0x070#10, 0x003#10, 0x3FE#10, 0x001#10, 0x0A5#10]).ports[
      (1 : Feed)] = { readingPort with reader := [], lineCount := 10 } := by decide +kernel

/-- The reader holds the words read so far, and a lone 2AAh waits (R2, R6). -/
theorem test_reader_holds_words :
    ((State.reset.setPort 1 readingPort).wordsArrive 1 [0x070#10, 0x003#10, 0x2AA#10]).ports[(1 : Feed)].reader =
      [0x2AA#10, 0x155#10, 0x070#10, 0x003#10, 0x2AA#10] ∧
    ((State.reset.setPort 1 { readingPort with reader := [] }).wordsArrive 1 [0x2AA#10, 0x2AA#10]).ports[
      (1 : Feed)].reader = [0x2AA#10] := by decide +kernel

/-- Picture words are carried word for word (R5). -/
theorem test_picture_carried :
    (match ((State.reset.setPort 1 { readingPort with sync := .picture }).setOutput 1 (.line plainLine)).wordsArrive 1
        [0x123#10, 0x0C3#10] |>.outputs[(1 : Feed)] with
      | .line l => l.picture
      | _ => none) = some [0x123#10, 0x0C3#10] := by decide +kernel

/-! ### Input ports (the table under R3) -/

theorem test_line_marker_without_frame :
    (after (.lineMarker (.bare 3) 0) State.reset).ports[(3 : Feed)] = { portReset with sync := .blanking } := by decide +kernel

theorem test_line_marker_holds_at_4095 :
    (after (.lineMarker (.bare 3) 0) (State.reset.setPort 3 { readingPort with lineCount := 4095 })).ports[(3 : Feed)] =
      { readingPort with lineCount := 4095, reader := [] } := by decide +kernel

theorem test_frame_marker_measures :
    (after (.frameMarker (.bare 3) 0) (State.reset.setPort 3
        { sync := .blanking, lineCount := 4, framesSeen := 1, measuredL := none, reader := [], held := .nothing })).ports[(3 : Feed)] =
      { sync := .blanking, lineCount := 1, framesSeen := 2, measuredL := some 4, reader := [], held := .nothing } := by decide +kernel

/-- The third marker of a returning input under BYPASS is the first frame start in FOLLOW (section 2.2). -/
theorem test_frame_marker_follows_under_bypass :
    (after (.frameMarker (.bare 3) 0) ((State.reset.setPort 3 { readingPort with lineCount := 1125 }).setPath 3
        { pathReset with timing := .recovered })).paths[(3 : Feed)].timing = .follow := by decide +kernel

theorem test_picture_mark :
    (after (.pictureMark (.bare 1) 0) (State.reset.setPort 1 readingPort)).ports[(1 : Feed)] =
      { readingPort with sync := .picture, reader := [] } := by decide +kernel

theorem test_packet_begins :
    (after (.packetBegins (.bare 1)) (State.reset.setPort 1 { readingPort with reader := [] })).ports[(1 : Feed)] =
      readingPort := by decide +kernel

theorem test_packet_begins_not_in_picture :
    (after (.packetBegins (.bare 1)) (State.reset.setPort 1 { readingPort with sync := .picture })).ports[(1 : Feed)] =
      { readingPort with sync := .picture } := by decide +kernel

theorem test_malformed_header :
    (after (.malformedHeader (.bare 1) 0x100#10 0x000#10) (State.reset.setPort 1 readingPort)).ports[(1 : Feed)] =
      { readingPort with reader := [] } := by decide +kernel

/-! ### Packets -/

/-- The packet of section 1.3.1 teaches the table its stream (R62). -/
theorem test_taken_packet_learns :
    (State.reset.takeStream { feed := 4, slot := 2 } 3 0).streams[(0 : Fin 48)] =
      some { source := { feed := 4, slot := 2 }, age := 0, seen := true, phase := 3, packets := 1, mends := 0 } := by
  decide +kernel

/-- The command of section 1.4.1 and its sixteen reply fields, for the path record of reset. -/
theorem test_packet_complete_answers_command :
    replies (after (.packetComplete (.bare 0) 0x61#8
        [5#10, 0#10, 0#10, 17#10, 0#10, 0#10, 1#10, 0#10, 0#10, 6#10, 0#10, 0#10, 3#10, 0#10, 0#10] 0x090#10)
        { State.reset.setPort 0 readingPort with deviceAddress := 5 }) =
      [[5, 17, 0, 1, 25000, 1000, 0, 268, 1125, 0, 1, 0, 0, 0, 0, 0]] := by decide +kernel

/-- The rule table of section 3.2.2, entries 0, 1, 2, 3, 13 and 14. -/
def cameraRules : Vector RuleEntry 16 :=
  (((((((Vector.ofFn ruleReset).set 0 { ruleReset 0 with
      enabled := true, matchField := .slot, value := 3, strip := true, watchMode := .absence, watchLimit := 3 }).set 1
      { ruleReset 1 with enabled := true, matchField := .slot, value := 4, source := 0, take := false }).set 2
      { ruleReset 2 with
        enabled := true, value := 32, joined := 0x4000#16, strip := true, take := false, watchMode := .tally
        watchLimit := 3 }).set 3
      { ruleReset 3 with enabled := true, value := 96, joined := 0x2008#16, take := false }).set 13
      { ruleReset 13 with matchField := .slot, compare := .unequal, value := 7 }).set 14
      { ruleReset 14 with matchField := .span, compare := .unequal, value := 0 })

/-- Packets 1 to 4 of section 3.2.2, with the sum left out of account. -/
theorem test_rules_decide_carriage :
    decide? cameraRules (makePacket 0x60#8 [0x023#10]) =
        { decider := some 0, action := some 0, strip := true, take := true } ∧
      decide? cameraRules (makePacket 0x60#8 [0x024#10]) =
        { decider := some 1, action := some 0, strip := true, take := true } ∧
      decide? cameraRules (makePacket 0x60#8 [0x015#10]) =
        { decider := some 3, action := some 3, strip := false, take := false } ∧
      decide? cameraRules (makePacket 0x60#8 [0x027#10]) =
        { decider := none, action := none, strip := false, take := true } := by decide +kernel

/-- Packets 5, 6, 9 and 10 of section 3.2.2. -/
theorem test_rules_decide_other_packets :
    decide? cameraRules (makePacket 0x20#8 (List.replicate 6 0#10)) =
        { decider := some 2, action := some 2, strip := true, take := false } ∧
      (decide? cameraRules (makePacket 0x20#8 [])).decider = none ∧
      (decide? cameraRules (makePacket 0x60#8 [])).decider = none ∧
      (decide? cameraRules (makePacket 0x62#8 (List.replicate 12 0#10))).decider = none := by decide +kernel

/-! ### Timers, ticks and sweeps -/

/-- Section 2.4.1 at 98.0 ms: the feed of path 2 is lost. -/
theorem test_loss_timer_expiry :
    let t := after (.lossTimerExpiry 2 1000000) ((State.reset.setPath 2 { followPath with lossTimer := some 0 }).setOutput 2
      (.line plainLine))
    t.paths[(2 : Feed)].timing = .lost ∧ (match t.outputs[(2 : Feed)] with | .blackRun _ => true | _ => false) = true ∧
      t.notice (.inputLost 2) = { raised := true, generation := 1 } := by decide +kernel

/-- A timer 1 ns short of its time does not expire (R23). -/
theorem test_loss_timer_not_due :
    (after (.lossTimerExpiry 2 999999) (State.reset.setPath 2 { followPath with lossTimer := some 0 })).paths[
      (2 : Feed)].timing = .follow := by decide +kernel

/-- The first pulse after reset is delivered with the count 1, and no period is measured (R39). -/
theorem test_house_pulse_first :
    (after (.housePulse 5) State.reset).tick =
      { (tickReset 5) with count := 1, lastPulse := some 5 } := by decide +kernel

/-- Section 2.6.1 at 317 ms: the period is kept, HOUSE-RETURNED is raised, tick 8. -/
theorem test_house_pulse_returns :
    let t := after (.housePulse 17000000) { State.reset with
      now := 300000000
      tick := { reference := .absent, period := some 40000000, lastPulse := some 120000000, count := 7
                absenceTimer := none, freewheelTimer := some 300000000 } }
    t.tick = { reference := .present, period := some 40000000, lastPulse := some 317000000, count := 8
               absenceTimer := some 317000000, freewheelTimer := none } ∧
      t.notice .houseReturned = { raised := true, generation := 1 } := by decide +kernel

/-- Section 2.6.1 at 220 ms: HOUSE-LOST and tick 5. -/
theorem test_absence_timer_expiry :
    let t := after (.absenceTimerExpiry 100000000) { State.reset with
      now := 120000000
      tick := { reference := .present, period := some 40000000, lastPulse := some 120000000, count := 4
                absenceTimer := some 120000000, freewheelTimer := none } }
    t.tick.reference = .absent ∧ t.tick.count = 5 ∧ t.tick.freewheelTimer = some 220000000 ∧
      t.notice .houseLost = { raised := true, generation := 1 } := by decide +kernel

/-- Section 2.6.1 at 260 ms: tick 6. -/
theorem test_freewheel_timer_expiry :
    (after (.freewheelTimerExpiry 40000000) { State.reset with
      now := 220000000
      tick := { reference := .absent, period := some 40000000, lastPulse := some 120000000, count := 5
                absenceTimer := none, freewheelTimer := some 220000000 } }).tick =
      { reference := .absent, period := some 40000000, lastPulse := some 120000000, count := 6, absenceTimer := none
        freewheelTimer := some 260000000 } := by decide +kernel

/-- Section 3.3.2: an ABSENCE watch of limit 3 at count 2 expires at the next tick. -/
theorem test_tick_expires_watch :
    let r := { ruleReset 0 with watchMode := .absence, watchLimit := 3, watchCount := 2 }
    let t := after (.housePulse 0) (State.reset.setRule 4 0 r)
    t.rules[(4 : Feed)][(0 : RuleIndex)] = { r with watchCount := 3, watchState := .expired } ∧
      t.notice (.watchExpired 4 0) = { raised := true, generation := 1 } := by decide +kernel

theorem test_watch_expired :
    let r := { ruleReset 0 with watchMode := .absence, watchLimit := 3, watchCount := 3 }
    (after (.watchExpired 4 0) (State.reset.setRule 4 0 r)).rules[(4 : Feed)][(0 : RuleIndex)] =
      { r with watchState := .expired } := by decide +kernel

theorem test_tally_reached :
    let r := { ruleReset 2 with watchMode := .tally, watchLimit := 3, watchCount := 3 }
    let t := after (.tallyReached 4 2) (State.reset.setRule 4 2 r)
    t.rules[(4 : Feed)][(2 : RuleIndex)] = { r with watchCount := 0 } ∧
      t.notice (.tallyReached 4 2) = { raised := true, generation := 1 } := by decide +kernel

/-- Section 4.8, sweep 5: the entry of age 3 is removed and the other two stay. -/
theorem test_sweep :
    let t := after .sweep { State.reset with
      sweepCounter := 25
      sweepReached := true
      tableCount := 3
      streams := ((State.reset.streams.set 0 (some (entryOf 2 0))).set 1
        (some { entryOf 6 3 with age := 3, seen := false })).set 2 (some (entryOf 4 5)) }
    t.streams[(0 : Fin 48)] = some { entryOf 2 0 with seen := false } ∧ t.streams[(1 : Fin 48)] = none ∧
      t.streams[(2 : Fin 48)] = some { entryOf 4 5 with seen := false } ∧ t.tableCount = 2 := by decide +kernel

/-- A write that lowers A to 10 with the counter at 17 sweeps at the next tick and not before (R65). -/
theorem test_sweep_waits_for_tick :
    let s := after (.writeEntrySettings 1 0 0 0 10 1) { knowsStream with sweepCounter := 17 }
    (after .sweep s).sweepCounter = 17 ∧ (after (.housePulse 0) s).sweepCounter = 0 := by decide +kernel

/-- Section 4.9: the replaceable entry of lowest index is replaced in a full table. -/
theorem test_taken_packet_replaces :
    let full : Vector (Option StreamEntry) 48 := Vector.ofFn fun i =>
      some { entryOf (Fin.ofNat 8 (i.val / 8)) (Fin.ofNat 8 i.val) with
        age := if i.val = 7 ∨ i.val = 30 then 3 else 0, seen := false }
    let t := { State.reset with streams := full, tableCount := 48 }.takeStream { feed := 7, slot := 6 } 0 0
    t.streams[(7 : Fin 48)] = some (entryOf 7 6) ∧ t.streams[(30 : Fin 48)] = full[(30 : Fin 48)] ∧
      t.tableCount = 48 := by decide +kernel

/-! ### Output lines -/

/-- Section 2.4.1: line 984 of the frame begun at 260 ms, with Lf 1125 and P 40 ms, begins before 295 ms. -/
theorem test_generated_line_start :
    let g : GenFrame := { start := 260000000, period := 40000000, lines := 1125, next := 984, begun := 294900000 }
    (after (.generatedLineStart 2 0) { State.reset.setRaster 2 (some g) with now := 294999999 }).rasters[(2 : Feed)] =
      some { g with next := 985, begun := 294999999 } := by decide +kernel

/-- Line 985 does not begin before 295 ms. -/
theorem test_generated_line_not_due :
    let g : GenFrame := { start := 260000000, period := 40000000, lines := 1125, next := 985, begun := 294900000 }
    (after (.generatedLineStart 2 0) { State.reset.setRaster 2 (some g) with now := 294999999 }).rasters[(2 : Feed)] =
      some g := by decide +kernel

/-- Section 1.3.1 again, as an output line in phase 3 carries it: slot 2 armed with lane 0, owed 1. -/
theorem test_output_line_carries :
    let e : SlotEntry := { slotReset with armed := true, laneA := some 0 }
    (after (.outputLineAssembly 0 .carriage) { ((((State.reset.setOutput 0 (.line plainLine)).setLane 0 runningLane).setPath 0
        followPath).setCarriage 0 { carriageReset with owed := 1, phase := 3 }).setRoute 0
        { routeReset with live := routeReset.live.set 2 e } with
        settings := { settingsReset 0 with replyFeed := 1 } }).outputs[(0 : Feed)] =
      .line
        { plainLine with made := 4, placed := [
          { kind := 0x60#8, sum := 0x2BD#10, payload := [0x0CA#10, 0x040#10, 0x042#10, 0x10F#10, 0x0FD#10, 0x0FF#10, 0x1FF#10] }] } := by
  decide +kernel

/-- A pop that finds a RUNNING lane empty starves it (R85). -/
theorem test_output_line_starves_lane :
    let t := after (.outputLineAssembly 0 .carriage) { (((State.reset.setOutput 0 (.line plainLine)).setLane 0
        { runningLane with fifo := [] }).setPath 0 followPath).setCarriage 0 { carriageReset with owed := 1 } with
        settings := { settingsReset 0 with replyFeed := 1 } }
    t.lanes[(0 : LaneId)].state = .starved ∧ t.lanes[(0 : LaneId)].starveTally = 1 ∧
      t.notice (.laneStarved 0) = { raised := true, generation := 1 } := by decide +kernel

/-- A reply placed goes with a line that a marker cuts before its carriage step (R131): the queue is empty, no carriage
request was made, and the next line has made no step. -/
theorem test_cut_between_steps :
    let s := { ((State.reset.setOutput 0 (.line { plainLine with made := 2, replies := true })).setPath 0
        { followPath with timing := .recovered, resumePending := true }).setPort 0 readingPort with
      replyQueue := [{ fields := [0, 0, 0] }] }
    let t := after (.frameMarker (.bare 0) 0) (after (.outputLineAssembly 0 .replies) s)
    t.replyQueue = [] ∧ t.carriage[(0 : Feed)].linePosition = 0 ∧
      (match t.outputs[(0 : Feed)] with | .line l => l.made | _ => 9) = 0 := by decide +kernel

/-! ### Arithmetic -/

/-- The frame counts of section 6.3.1 at 30000/1001: counts and accumulators of the first cadence. -/
theorem test_frame_counts :
    (List.range 6).map (fun i =>
        let c := carriageReset.frames 30000 1001 (fun _ => 10) (fun _ => 1125) (i + 1)
        (c.phase, c.frameCount, c.accumulator)) =
      [(0, 1601, 18000), (1, 1602, 6000), (2, 1601, 24000), (3, 1602, 12000), (4, 1602, 0), (0, 1601, 18000)] := by
  decide +kernel

/-- The cadence lengths of the table under R20. -/
theorem test_cadence_lengths :
    cadenceLength 25000 1000 = 1 ∧ cadenceLength 30000 1001 = 5 ∧ cadenceLength 24000 1001 = 1 ∧
      cadenceLength 50000 1001 = 25 ∧ cadenceLength 23976 1000 = 999 ∧ cadenceLength 12001 1000 = 12001 := by
  decide +kernel

/-- L′ as the table under R104 gives it. -/
theorem test_shared_lines :
    sharedLines 1125 10 = 1115 ∧ sharedLines 625 0 = 625 ∧ sharedLines 3000 5 = 2042 ∧ sharedLines 8 12 = 1 := by
  decide +kernel

/-- The dues under R105 at 30000/1001. -/
theorem test_dues :
    ([0, 1, 2, 3, 1114, 1115].map (dueOf 1601 1115)) = [1, 1, 2, 1, 2, 0] := by decide +kernel

/-- The set counts allowed by room in the table under R107. -/
theorem test_room_counts :
    setCount 9 (some 268) 8 = 4 ∧ setCount 9 (some 198) 8 = 3 ∧ setCount 9 (some 98) 8 = 1 ∧
      setCount 9 (some 38) 8 = 0 ∧ setCount 9 (some 38) 2 = 2 ∧ setCount 9 (some 0) 1 = 0 := by decide +kernel

/-- The clamp of section 6.7.2: 242 sets left over. -/
theorem test_shortfall :
    (({ carriageReset with frameCount := 1920, given := 1678, fresh := false } : Carriage).frameStart 25000 1000 10
      1125).owed = 8 ∧
    (({ carriageReset with frameCount := 1920, given := 1678, fresh := false } : Carriage).frameStart 25000 1000 10
      1125).shortfall = 234 := by decide +kernel

/-- The first four lines of the first table of section 8.4.1. -/
theorem test_slot_arithmetic :
    let e : SlotEntry := slotReset
    let h : SlotEntry := { slotReset with halve := true }
    let x : SampleSet := { left := 7000001, right := -6000000 }
    let y : SampleSet := { left := 5000000, right := -3000000 }
    e.output (some x) (some y) = { left := 8388607, right := -8388608 } ∧ e.clipCount (some x) (some y) = 2 ∧
      (h.output (some x) (some y)).left = 6000000 ∧ h.clipCount (some x) (some y) = 0 ∧
      h.output (some { left := -3, right := -3 }) none = { left := -2, right := -2 } := by decide +kernel

/-- The channel maps of section 8.4.1, and its MONO-SUM below the range. -/
theorem test_channel_maps :
    let out := fun m => ({ slotReset with channelMap := m } : SlotEntry).output (some { left := 100, right := -50 })
      (some { left := 7, right := 9 })
    out .straight = { left := 107, right := -41 } ∧ out .swap = { left := -41, right := 107 } ∧
      out .leftBoth = { left := 107, right := 107 } ∧ out .rightBoth = { left := -41, right := -41 } ∧
      out .monoSum = { left := 33, right := 33 } ∧
      (ChannelMap.monoSum.arrange { left := -8388608, right := -1 }).left = -4194305 := by decide +kernel

/-- Section 5.3.1, lane 4: sets 1 to 3 of the packet. -/
theorem test_arrival :
    let ok := fun v : Int => ({ value := v, passes := true } : CheckedSample)
    let bad := fun v : Int => ({ value := v, passes := false } : CheckedSample)
    let x := [({ left := ok 1000000, right := ok (-3) } : CheckedSet), { left := ok (-8388608), right := bad 77 },
        { left := bad 512, right := ok 250 }].foldl Lane.append
      { runningLane with invertLeft := true, fifo := [], holdLeft := -20, holdRight := 40 }
    x.fifo = [{ left := -1000000, right := -3 }, { left := 8388607, right := -3 }, { left := 8388607, right := 250 }] ∧
      x.mendTally = 2 ∧ x.holdLeft = 8388607 ∧ x.holdRight = 250 := by decide +kernel

/-- Section 7.7: a fill of 1008 is left alone and one of 1009 drops a set. -/
theorem test_window :
    ({ runningLane with fifo := List.replicate 1008 zeroSet } : Lane).correction = .leave ∧
      ({ runningLane with fifo := List.replicate 1009 zeroSet } : Lane).correction = .drop := by decide +kernel

/-- Section 9.5: lane 4's pass wraps from 255 to 0 and lane 5's window opens at the same frame start. -/
theorem test_probe_sweep :
    let w : ProbeWork := { peakLeft := 5200000, peakRight := 8388607, overLeft := 0, overRight := 3, running := true }
    let t := (((State.reset.setLane 4 { runningLane with drain := 1 }).setLane 5 { runningLane with drain := 1 }).setProbe
      { settings := { mode := .sweep, first := 4, last := 6, trigger := .command }, run := .measuring 4 1 w
        results := probeReset.results.set 4 { resultReset with pass := 255 } }).probeFrameStart 1
    t.probe.results[(4 : LaneId)] =
        { peakLeft := 5200000, peakRight := 8388607, overLeft := 0, overRight := 3, complete := true, pass := 0 } ∧
      t.probe.run = .measuring 5 1 (openWork true) := by decide +kernel

/-- The magnitude of the lowest sample (section 9.1). -/
theorem test_magnitude : magnitude (-8388608) = 8388607 ∧ fullScale (-8388608) = true ∧ magnitude (-980000) = 980000 := by
  decide +kernel

/-! ### Reads of the tables after reset (R22, R59, R71, R73, R98, R141, R142, R160) -/

theorem test_read_rule : replies (after (.readEntryRule 1 127) State.reset) =
    [[0, 1, 0, 0, 0, 0, 0, 0, 15, 0, 1, 0, 1, 0, 0]] := by decide +kernel

theorem test_read_lane : replies (after (.readEntryLane 1 31) State.reset) =
    [[0, 1, 0, 255, 255, 0, 960, 48, 0, 0, 0, 0, 0, 0, 0, 0, 0, 0, 0, 0]] := by decide +kernel

theorem test_read_route_shadow : replies (after (.readEntryRouteShadow 1 63) State.reset) =
    [[0, 1, 0, 0, 255, 255, 0, 0, 0, 0, 0]] := by decide +kernel

theorem test_read_route_live : replies (after (.readEntryRouteLive 1 0) State.reset) =
    [[0, 1, 0, 0, 255, 255, 0, 0, 0, 0, 0, 0, 0]] := by decide +kernel

theorem test_read_stream : replies (after (.readEntryStream 1 0) knowsStream) =
    [[0, 1, 0, 1, 1, 16, 0, 1, 0, 1, 0, 0]] := by decide +kernel

theorem test_read_path_bad_index : replies (after (.readEntryPath 1 8) State.reset) = [[0, 1, 5]] := by decide +kernel

theorem test_read_probe : replies (after (.readEntryProbe 1 0) State.reset) = [[0, 1, 0, 0, 0, 0, 0, 0, 0, 0, 255]] := by
  decide +kernel

theorem test_read_settings : replies (after (.readEntrySettings 1 0) State.reset) = [[0, 1, 0, 0, 0, 25, 1, 0]] := by
  decide +kernel

/-! ### Writes -/

/-- Entry 0 of section 3.2.2 for input 4, with its limit above the range. -/
theorem test_write_rule :
    replies (after (.writeEntryRule 1 64 1 1 0 3 0 0 1 1 1 5000) State.reset) =
      [[0, 1, 1, 1, 1, 0, 3, 0, 0, 1, 1, 1, 4095]] := by decide +kernel

/-- Lane 9 of section 5.11: primary (6, 3) is 51, backup (2, 0) is 16. -/
theorem test_write_lane :
    (after (.writeEntryLane 1 9 51 16 1 960 48 0 0 0) State.reset).lanes[(9 : LaneId)] =
      { laneReset with
        primary := some { feed := 6, slot := 3 }, backup := some { feed := 2, slot := 0 }, drain := 1
        state := .priming } := by decide +kernel

/-- A backup without a primary (R74). -/
theorem test_write_lane_backup_alone :
    replies (after (.writeEntryLane 1 9 255 16 1 960 48 0 0 0) State.reset) = [[0, 1, 4]] := by decide +kernel

theorem test_write_route_shadow :
    (after (.writeEntryRouteShadow 1 5 1 7 255 4 1 0 1) State.reset).routes[(0 : Feed)].shadow[(5 : Slot)] =
      { armed := true, laneA := some 7, laneB := none, channelMap := .monoSum, halve := true, mute := false
        policy := .overrides } := by decide +kernel

/-- Lane 7 drains to feed 0, not to feed 3 (R123). -/
theorem test_write_route_conflict :
    replies (after (.writeEntryRouteShadow 1 29 1 7 255 0 0 0 0) State.reset) = [[0, 1, 6]] := by decide +kernel

/-- Section 2.5.1: a Q of 20 is stored as 15. -/
theorem test_write_path :
    replies (after (.writeEntryPath 1 2 0 30000 1001 20 268 1125) State.reset) =
      [[0, 1, 1, 0, 30000, 1001, 15, 268, 1125]] := by decide +kernel

/-- 50000/1001 has a cadence of 25 (R20). -/
theorem test_write_path_long_cadence :
    replies (after (.writeEntryPath 1 2 0 50000 1001 0 268 1125) State.reset) = [[0, 1, 4]] := by decide +kernel

/-- Section 10.8, tag 1: A of 300 is stored as 255. -/
theorem test_write_settings :
    replies (after (.writeEntrySettings 1 0 0 2 300 1) State.reset) = [[0, 1, 1, 0, 2, 255, 1]] := by decide +kernel

theorem test_write_unwritable : replies (after (.writeEntryUnwritable 1 .stream []) State.reset) = [[0, 1, 3]] := by
  decide +kernel

/-! ### Commands -/

/-- The feed set of feed 3 alone is 8 (section 8.6.1). -/
theorem test_swap_routes :
    ((after (.swapRoutes true 1 8) State.reset).routes.map Route.swapPending).toList =
      [false, false, false, true, false, false, false, false] := by decide +kernel

theorem test_copy_live_pending :
    replies (after (.copyLive 1 3) (State.reset.setRoute 3 { routeReset with swapPending := true })) = [[0, 1, 8]] := by
  decide +kernel

theorem test_flush_lane :
    (after (.flushLane 1 0) (State.reset.setLane 0 runningLane)).lanes[(0 : LaneId)] =
      { runningLane with state := .priming, fifo := [] } := by decide +kernel

/-- A lane on its backup whose primary has no valid entry (R92). -/
theorem test_return_primary_no_signal :
    replies (after (.returnPrimary 1 0) (State.reset.setLane 0 { runningLane with active := .backup })) = [[0, 1, 11]] := by
  decide +kernel

theorem test_resume_lost : replies (after (.resume 1 2) State.reset) = [[0, 1, 11]] := by decide +kernel

theorem test_clear_streams :
    (after (.clearStreams 1) knowsStream).tableCount = 0 ∧
      (after (.clearStreams 1) knowsStream).streams[(0 : Fin 48)] = none := by decide +kernel

/-- The notices of section 10.8: INPUT-LOST of feed 3 at generation 4 and HOUSE-LOST at generation 1. -/
def twoRaised : State :=
  (State.reset.setNotice (Notice.inputLost 3).index { raised := true, generation := 4 }).setNotice Notice.houseLost.index
    { raised := true, generation := 1 }

theorem twoRaised_raised (n : Notice) :
    (twoRaised.notice n).raised = (n == .inputLost 3 || n == .houseLost) := by
  by_cases h : n = .houseLost
  · subst h; decide +kernel
  · by_cases h' : n = .inputLost 3
    · subst h'; decide +kernel
    · have e1 : Notice.houseLost.index.val ≠ n.index.val := fun e => h (Notice.index_injective (Fin.ext e.symm))
      have e2 : (Notice.inputLost 3).index.val ≠ n.index.val := fun e => h' (Notice.index_injective (Fin.ext e.symm))
      have e : twoRaised.notice n = State.reset.notice n := by
        simp [State.notice, twoRaised, State.setNotice, e1, e2]
      rw [e]
      simp [State.notice, State.reset, noticeReset, h, h']

/-- Section 10.8, tag 2: more no, next cursor 0, and the triples (1, 3, 4) and (4, 0, 1). -/
theorem test_read_status : twoRaised.statusFields 0 = [0, 0, 2, 1, 3, 4, 4, 0, 1] := by
  have e : twoRaised.raisedNotices = [.inputLost 3, .houseLost] := by
    rw [State.raisedNotices, List.filter_congr fun n _ => twoRaised_raised n]
    decide +kernel
  rw [State.statusFields, e]
  decide +kernel
theorem test_read_status_bad_cursor : replies (after (.readStatus 1 3968) State.reset) = [[0, 1, 4]] := by decide +kernel

/-- Section 10.8, tag 3: INPUT-LOST of feed 3 at generation 4 while path 3 is in LOST. -/
theorem test_clear_notice_persists :
    replies (after (.clearNotice 3 1 3 4) (State.reset.setNotice (Notice.inputLost 3).index
      { raised := true, generation := 4 })) = [[0, 3, 10]] := by decide +kernel

/-- Section 4.9: a clear with a generation already passed. -/
theorem test_clear_notice_stale :
    replies (after (.clearNotice 3 1 3 1) (State.reset.setNotice (Notice.inputLost 3).index
      { raised := true, generation := 2 })) = [[0, 3, 9]] := by decide +kernel

theorem test_probe_start :
    (after (.probeStart 1 2 4 6 0) State.reset).probe.run = .awaitFrame 4 := by decide +kernel

theorem test_probe_stop :
    (after (.probeStop 1) (State.reset.setProbe { probeReset with run := .awaitFrame 4 })).probe.run = .stopped := by
  decide +kernel

theorem test_restart :
    let t := after (.restart 9) { knowsStream with beaconPending := true, settings := settingsReset 5 }
    replies t = [[0, 9, 0]] ∧ t.tableCount = 0 ∧ t.beaconPending = false ∧ t.settings = settingsReset 5 := by
  decide +kernel

/-- A command too short to hold a tag gets the tag 0 (R16). -/
theorem test_bad_command : replies (after (.badCommand [] true) State.reset) = [[0, 0, 2]] := by decide +kernel

theorem test_broadcast_discard :
    (after (.broadcastDiscard [] true) State.reset).commandQueue = [] ∧
      replies (after (.broadcastDiscard [] true) State.reset) = [] := by decide +kernel

/-- Address straps of 15 are taken as 14 (R160). -/
theorem test_power_on_reset :
    let t := after (.powerOnReset 15 6) State.reset
    t.deviceAddress = 14 ∧ t.settings.controlFeed = 6 ∧ t.settings.replyFeed = 6 := by decide +kernel

/-! ### Witnesses: the step and the resets -/

/-- One command waits. -/
def sweepWaits : State := { State.reset with pending := [.sweep] }

theorem test_witness_StepRunsTheFrontCommand :
    sweepWaits.pending = .sweep :: [] ∧ State.reset.pending = [] := by decide +kernel

theorem test_witness_PowerOnResetSamplesStraps :
    (∀ straps feed, Instr.sweep ≠ .powerOnReset straps feed) ∧ exec .sweep State.reset = .next State.reset :=
  ⟨(by intro _ _ h; cases h), rfl⟩

/-- RESTART and every command that executes at once: no command waits and a reply has room, with none and with seven
replies waiting. -/
theorem test_witness_RestartKeepsOnlyAddressAndSettings :
    State.reset.Ready ∧ ({ State.reset with replyQueue := fullReplies.tail } : State).Ready := by decide +kernel

/-! ### Witnesses: input ports -/

/-- A mark behind a held 3FEh, 001h; a picture mark in a blanking space and outside; another type word; and a word that is
no 3FEh. -/
theorem test_witness_MarksAreRecognisedAtEveryPosition :
    (State.reset.setPort 0 { readingPort with held := .second }).ports[(0 : Feed)].held.words = [0x3FE#10, 0x001#10] ∧
      (forList (State.plainWord 0) [] (State.reset.setPort 0 readingPort)).ports[(0 : Feed)].sync = .blanking ∧
      (forList (State.plainWord 0) [] State.reset).ports[(0 : Feed)].sync ≠ .blanking ∧
      (0x0A6#10 : FeedWord) ≠ 0x0A5#10 ∧ (0x0A6#10 : FeedWord) ≠ 0x15A#10 ∧ (0x0A6#10 : FeedWord) ≠ 0x0C3#10 ∧
      (0x0A6#10 : FeedWord) ≠ 0x3FE#10 ∧ State.reset.ports[(0 : Feed)].held = .nothing := by decide +kernel

theorem test_witness_LineMarkerBeginsALine :
    State.reset.ports[(0 : Feed)].held = .nothing ∧
    (State.reset.setPath 0 followPath).paths[(0 : Feed)].timing = .follow ∧ State.reset.paths[(0 : Feed)].timing ≠ .follow ∧
      (7 : Feed) ≠ 0 := by decide +kernel

/-- L of 4 before the marker and of 5 with it; then none before, and 4 both times. -/
theorem test_witness_FrameMarkerMeasuresAndCompares :
    (∃ s t : State, s.ports[(0 : Feed)].held = .nothing ∧ exec (.frameMarker (.bare 0) 0) s = .next t ∧
      s.ports[(0 : Feed)].measuredL = some 4 ∧ t.ports[(0 : Feed)].measuredL = some 5 ∧ 4 ≠ 5) ∧
    (∃ s t : State, s.ports[(0 : Feed)].held = .nothing ∧ exec (.frameMarker (.bare 0) 0) s = .next t ∧
      s.ports[(0 : Feed)].measuredL = none) ∧
    (∃ s t : State, s.ports[(0 : Feed)].held = .nothing ∧ exec (.frameMarker (.bare 0) 0) s = .next t ∧
      s.ports[(0 : Feed)].measuredL = t.ports[(0 : Feed)].measuredL ∧ s.ports[(0 : Feed)].measuredL = some 4) :=
  ⟨⟨State.reset.setPort 0 { readingPort with lineCount := 5, measuredL := some 4 }, _, by decide +kernel, rfl,
      by decide +kernel, by decide +kernel, by decide⟩,
    ⟨State.reset, _, by decide +kernel, rfl, by decide +kernel⟩,
    ⟨State.reset.setPort 0 { readingPort with lineCount := 4, measuredL := some 4 }, _, by decide +kernel, rfl,
      by decide +kernel, by decide +kernel⟩⟩

/-- Where the marker is no feed frame start: frames seen 0 in LOST, 1 in LOST, and 2 in RECOVERED under NORMAL. -/
theorem test_witness_FrameMarkerMeasuresAndCompares_outside :
    (State.reset.ports[(0 : Feed)].framesSeen = 0 ∧ State.reset.ports[(0 : Feed)].measuredL = none ∧
      State.reset.paths[(0 : Feed)].timing = .lost ∧ State.reset.ports[(0 : Feed)].held = .nothing) ∧
    (∃ s : State, s.ports[(0 : Feed)].framesSeen = 1 ∧ s.paths[(0 : Feed)].timing = .lost ∧
      s.ports[(0 : Feed)].held = .nothing) ∧
    (∃ s : State, s.ports[(0 : Feed)].framesSeen ≠ 0 ∧ s.paths[(0 : Feed)].timing = .recovered ∧
      s.paths[(0 : Feed)].inForce = .normal ∧ s.paths[(0 : Feed)].resumePending = false ∧
      s.ports[(0 : Feed)].held = .nothing) :=
  ⟨by decide +kernel,
    ⟨State.reset.setPort 0 { portReset with sync := .blanking, framesSeen := 1, lineCount := 4 }, by decide +kernel⟩,
    ⟨(State.reset.setPort 0 readingPort).setPath 0 { followPath with timing := .recovered }, by decide +kernel⟩⟩

/-- In FOLLOW behind a line; in RECOVERED under BYPASS, dark; in RECOVERED under NORMAL with resume-pending, on a generated
line and on a black run. Lanes drain to feed 0 and none to feed 1. -/
theorem test_witness_FrameMarkerFrameStart :
    (∃ s : State, s.ports[(0 : Feed)].framesSeen ≠ 0 ∧ s.ports[(0 : Feed)].held = .nothing ∧
      s.paths[(0 : Feed)].timing = .follow ∧ s.outputs[(0 : Feed)] = .line plainLine ∧
      s.lanes[(0 : LaneId)].drain = 0 ∧ s.lanes[(1 : LaneId)].drain ≠ 0) ∧
    (∃ s : State, s.ports[(0 : Feed)].framesSeen ≠ 0 ∧ s.ports[(0 : Feed)].held = .nothing ∧
      s.paths[(0 : Feed)].timing = .recovered ∧ s.paths[(0 : Feed)].inForce = .bypass ∧ s.outputs[(0 : Feed)] = .dark) ∧
    (∀ o ∈ [Output.line { plainLine with generated := true }, .blackRun [0x3FE#10]], ∃ s : State,
      s.ports[(0 : Feed)].framesSeen ≠ 0 ∧ s.ports[(0 : Feed)].held = .nothing ∧
      s.paths[(0 : Feed)].timing = .recovered ∧ s.paths[(0 : Feed)].inForce = .normal ∧
      s.paths[(0 : Feed)].resumePending = true ∧ s.outputs[(0 : Feed)] = o) :=
  ⟨⟨((((State.reset.setPort 0 readingPort).setPath 0 followPath).setLane 1 { laneReset with drain := 1 }).setOutput 0
      (.line plainLine)), by decide +kernel⟩,
    ⟨(State.reset.setPort 0 readingPort).setPath 0 { pathReset with timing := .recovered }, by decide +kernel⟩,
    fun o _ => ⟨((State.reset.setPort 0 readingPort).setPath 0
      { followPath with timing := .recovered, resumePending := true }).setOutput 0 o, by simp [State.setPort, State.setOutput, readingPort],
      by simp [State.setPort, State.setOutput, readingPort], by simp [State.setPath, State.setOutput],
      by simp [State.setPath, State.setOutput, followPath], by simp [State.setPath, State.setOutput], by simp [State.setOutput]⟩⟩

/-- Each sync state with nothing held back; the reader idle, behind a lone 2AAh, behind the lead marks, and with room for just
two more payload words; and the least kind and the greatest span word that make a header malformed without spelling a
mark. -/
theorem test_witness_PictureMarksAndPacketReader :
    (∀ x ∈ [Sync.unsynced, .picture, .blanking], ∀ r ∈ [[], [0x2AA#10], [0x2AA#10, 0x155#10],
        [0x2AA#10, 0x155#10, 0x070#10, 0x002#10]], ∃ s : State, s.ports[(0 : Feed)].held = .nothing ∧
      s.ports[(0 : Feed)].sync = x ∧ s.ports[(0 : Feed)].reader = r) ∧
    ([] : List FeedWord).length + 2 ≤ (0x002#10 : FeedWord).toNat ∧
    255 < (0x100#10 : FeedWord).toNat ∧ plainWords [0x100#10, 0x3FF#10] = true :=
  ⟨fun x _ r _ => ⟨State.reset.setPort 0 { readingPort with sync := x, reader := r }, by rfl,
      by simp [State.setPort], by simp [State.setPort]⟩, by decide +kernel⟩

/-- Every state of the reader in a blanking space; and the packet of section 1.3.1 with idle words behind it. -/
theorem test_witness_PacketsAreReadWordByWord :
    (∀ r : List FeedWord, ∃ s : State, s.ports[(0 : Feed)].sync = .blanking ∧ s.ports[(0 : Feed)].held = .nothing ∧
      s.ports[(0 : Feed)].reader = r) ∧
    (0x040#10 : FeedWord) ≠ 0x3FE#10 ∧ ([] : List FeedWord).length < (0x001#10 : FeedWord).toNat ∧
    (0x001#10 : FeedWord).toNat ≤ [(0x3FF#10 : FeedWord)].length ∧
    plainWords ([0x060#10, 0x007#10] ++ [0x0CA#10, 0x040#10, 0x042#10, 0x10F#10, 0x0FD#10, 0x0FF#10, 0x1FF#10] ++
      [0x2BD#10] ++ [0x080#10, 0x080#10]) = true :=
  ⟨fun r => ⟨State.reset.setPort 0 { readingPort with reader := r }, by rfl, by rfl,
      by simp [State.setPort]⟩, by decide +kernel⟩

/-- Carried lines in a blanking space and in a picture, a line without picture, a generated one, and an UNSYNCED port. -/
theorem test_witness_LinesAreWrittenWordForWord :
    (∀ x ∈ [Sync.picture, .blanking], ∃ s : State, s.ports[(0 : Feed)].held = .nothing ∧
      s.outputs[(0 : Feed)] = .line plainLine ∧ s.ports[(0 : Feed)].sync = x ∧ s.ports[(0 : Feed)].reader = []) ∧
    plainLine.generated = false ∧ plainLine.picture = some [] ∧ ({ plainLine with picture := none } : Line).picture = none ∧
    ({ plainLine with generated := true } : Line).generated = true ∧ plainWords [0x123#10, 0x2AA#10] = true ∧
    (∀ w ∈ [(0x080#10 : FeedWord), 0x001#10], w ≠ 0x3FE#10 ∧ w ≠ 0x2AA#10) ∧
    State.reset.ports[(0 : Feed)].sync = .unsynced ∧ State.reset.ports[(0 : Feed)].held = .nothing :=
  ⟨fun x _ => ⟨(State.reset.setPort 0 { readingPort with sync := x, reader := [] }).setOutput 0 (.line plainLine),
      by rfl, by rfl, by simp [State.setPort, State.setOutput], by rfl⟩, by decide +kernel⟩

/-! ### Witnesses: decisions and packets -/

/-- The first and the last entry as deciders, and no decider. -/
theorem test_witness_FirstHoldingRuleDecides :
    (ruleHolds cameraRules (makePacket 0x60#8 [0x023#10]) 0 = true ∧
      ∀ j : RuleIndex, j < 0 → ruleHolds cameraRules (makePacket 0x60#8 [0x023#10]) j = false) ∧
    (ruleHolds ((Vector.ofFn ruleReset).set 15 { ruleReset 15 with enabled := true }) (makePacket 0#8 []) 15 = true ∧
      ∀ j : RuleIndex, j < 15 →
        ruleHolds ((Vector.ofFn ruleReset).set 15 { ruleReset 15 with enabled := true }) (makePacket 0#8 []) j = false) ∧
    (∀ i : RuleIndex, ruleHolds (Vector.ofFn ruleReset) (makePacket 0x60#8 [0x023#10]) i = false) ∧
    (makePacket 0x60#8 [0x023#10]).kind = 0x60#8 ∧ (makePacket 0x60#8 []).payload = [] := by decide +kernel

/-- A port that reads, on an open line, with entry 0 deciding every packet under the watch given. -/
def decidingState (r : RuleEntry) : State :=
  ((State.reset.setPort 0 readingPort).setOutput 0 (.line plainLine)).setRule 0 0 { r with enabled := true, compare := .unequal }

/-- What a packet needs of a state to be read on feed `p`, with its sum word the last. -/
theorem reading_bare {s : State} {p : Feed} (h : s.ports[p] = readingPort) {k : Packet} (hk : k.payload.length ≤ 255)
    (hw : plainWords (packetTail k.kind k.payload k.sum) = true) : s.Reading p k := by
  unfold State.Reading
  rw [h]
  exact ⟨rfl, rfl, rfl, hk, hw⟩

/-- A foreign packet on a carried line, under the default decision on a generated one, and under the watch modes, a TALLY
watch one and two short of its limit; a CARRIAGE packet with a bad sum, and one decided take no. -/
theorem test_witness_PacketCompleteIsDecided :
    (∃ s : State, s.Reading 0 (makePacket 0x20#8 []) ∧
      s.addressed 0 (makePacket 0x20#8 []) = false ∧ s.outputs[(0 : Feed)] = .line plainLine ∧
      (decide? s.rules[(0 : Feed)] (makePacket 0x20#8 [])).action = some 0 ∧
      s.rules[(0 : Feed)][(0 : RuleIndex)].watchMode = .idle) ∧
    (∃ s : State, s.Reading 0 (makePacket 0x20#8 []) ∧
      s.addressed 0 (makePacket 0x20#8 []) = false ∧
      s.outputs[(0 : Feed)] = .line { plainLine with generated := true } ∧
      (decide? s.rules[(0 : Feed)] (makePacket 0x20#8 [])).action = none) ∧
    ((decide? (decidingState { ruleReset 0 with watchMode := .absence }).rules[(0 : Feed)] (makePacket 0x20#8 [])).action =
      some 0) ∧
    (∃ s : State, (decide? s.rules[(0 : Feed)] (makePacket 0x20#8 [])).action = some 0 ∧
      s.rules[(0 : Feed)][(0 : RuleIndex)].watchMode = .tally ∧
      s.rules[(0 : Feed)][(0 : RuleIndex)].watchCount + 1 ≠ s.rules[(0 : Feed)][(0 : RuleIndex)].watchLimit) ∧
    (∃ s : State, (decide? s.rules[(0 : Feed)] (makePacket 0x20#8 [])).action = some 0 ∧
      s.rules[(0 : Feed)][(0 : RuleIndex)].watchMode = .tally ∧
      s.rules[(0 : Feed)][(0 : RuleIndex)].watchCount + 1 = s.rules[(0 : Feed)][(0 : RuleIndex)].watchLimit) ∧
    (∃ s : State, s.Reading 0 { carriagePacket 5 0 [] with sum := 0#10 } ∧
      ({ carriagePacket 5 0 [] with sum := 0#10 } : Packet).good = false) ∧
    (∃ s : State, s.Reading 0 (carriagePacket 5 0 []) ∧ (decide? s.rules[(0 : Feed)] (carriagePacket 5 0 [])).take = false) :=
  ⟨⟨decidingState (ruleReset 0), reading_bare (by decide +kernel) (by decide +kernel) (by decide +kernel), by decide +kernel⟩,
    ⟨(State.reset.setPort 0 readingPort).setOutput 0 (.line { plainLine with generated := true }),
      reading_bare (by decide +kernel) (by decide +kernel) (by decide +kernel), by decide +kernel⟩,
    by decide +kernel,
    ⟨decidingState { ruleReset 0 with watchMode := .tally, watchLimit := 3, watchCount := 1 }, by decide +kernel⟩,
    ⟨decidingState { ruleReset 0 with watchMode := .tally, watchLimit := 3, watchCount := 2 }, by decide +kernel⟩,
    ⟨State.reset.setPort 0 readingPort, reading_bare (by decide +kernel) (by decide +kernel) (by decide +kernel),
      by decide +kernel⟩,
    ⟨decidingState { ruleReset 0 with take := false },
      reading_bare (by decide +kernel) (by decide +kernel) (by decide +kernel), by decide +kernel⟩⟩

/-- The stream table of `knowsStream` holds no two entries of one stream. -/
theorem knowsStream_law : knowsStream.StreamLaw := by
  refine ⟨by decide +kernel, ?_⟩
  have none : ∀ i : Fin 48, i ≠ 0 → knowsStream.streams[i] = none := by decide +kernel
  intro i j hij a b ha hb
  by_cases hi : i = 0
  · have hj : j ≠ 0 := fun e => hij (hi.trans e.symm)
    simp [none j hj] at hb
  · simp [none i hi] at ha

/-- A taken packet of the stream at index 0, with one lane on it (filled to exactly 2048 by the packet's set) and the
others not. -/
theorem test_witness_TakenPacketRefreshesAndFeedsLanes :
    ∃ (s : State) (k : Packet) (c : CarriagePayload) (e : StreamEntry),
      s.Reading 2 k ∧ k.kind = 0x60#8 ∧ k.good = true ∧
      (decide? s.rules[(2 : Feed)] k).take = true ∧ readCarriage k.payload = some c ∧ s.StreamLaw ∧
      s.streams[(0 : Fin 48)] = some e ∧ e.source = { feed := 2, slot := c.slot } ∧
      s.lanes[(0 : LaneId)].activeStream = some e.source ∧
      s.lanes[(0 : LaneId)].fifo.length + c.sets.length = 2048 ∧ s.lanes[(1 : LaneId)].activeStream ≠ some e.source :=
  ⟨(knowsStream.setPort 2 readingPort).setLane 0 { runningLane with fifo := List.replicate 2047 zeroSet },
    carriagePacket 0 3 [zeroSet], { slot := 0, phase := 3, sets := [⟨⟨0, true⟩, ⟨0, true⟩⟩] }, entryOf 2 0,
    reading_bare (by decide +kernel) (by decide +kernel) (by decide +kernel), by decide +kernel, by decide +kernel,
    by decide +kernel, by decide +kernel, knowsStream_law, by decide +kernel, by decide +kernel, by decide +kernel,
    by decide +kernel, by decide +kernel⟩

/-- A full table of 48 streams of feeds 0 to 5, each of the age given for its index. -/
def fullTable (age : Nat → Nat) : State :=
  { State.reset.setPort 7 readingPort with
    streams := Vector.ofFn fun i : Fin 48 =>
      some { entryOf (Fin.ofNat 8 (i.val / 8)) (Fin.ofNat 8 i.val) with age := age i.val }
    tableCount := 48 }

/-- An empty table; a full one with its last entry of age 3; and a full one with none of age 3. -/
theorem test_witness_TakenPacketTeachesTheTable :
    (∃ s : State, s.Reading 7 (carriagePacket 6 0 []) ∧
      (carriagePacket 6 0 []).good = true ∧ (decide? s.rules[(7 : Feed)] (carriagePacket 6 0 [])).take = true ∧
      readCarriage (carriagePacket 6 0 []).payload = some { slot := 6, phase := 0, sets := [] } ∧
      ∀ i : Fin 48, s.streams[i] = none) ∧
    (∃ s : State, s.Reading 7 (carriagePacket 6 0 []) ∧
      (decide? s.rules[(7 : Feed)] (carriagePacket 6 0 [])).take = true ∧
      (∀ i : Fin 48, s.streams[i].map (fun e => e.source == { feed := 7, slot := 6 }) = some false) ∧
      s.streams[(47 : Fin 48)].map StreamEntry.age = some 3 ∧
      ∀ i : Fin 48, i < 47 → s.streams[i].map StreamEntry.age ≠ some 3) ∧
    (∃ s : State, s.Reading 7 (carriagePacket 6 0 []) ∧
      (decide? s.rules[(7 : Feed)] (carriagePacket 6 0 [])).take = true ∧
      (∀ i : Fin 48, s.streams[i].map (fun e => e.source == { feed := 7, slot := 6 }) = some false) ∧
      ∀ i : Fin 48, s.streams[i].map StreamEntry.age = some 2) :=
  ⟨⟨State.reset.setPort 7 readingPort, reading_bare (by decide +kernel) (by decide +kernel) (by decide +kernel),
      by decide +kernel⟩,
    ⟨fullTable fun i => if i = 47 then 3 else 0,
      reading_bare (by decide +kernel) (by decide +kernel) (by decide +kernel), by decide +kernel⟩,
    ⟨fullTable fun _ => 2, reading_bare (by decide +kernel) (by decide +kernel) (by decide +kernel), by decide +kernel⟩⟩

/-- The lanes of the statement: one on the stream removed with a valid backup, one on its backup whose primary is added,
with auto-return, one on the stream, and one on none. -/
theorem test_witness_TakenPacketTeachesTheTable_lanes :
    let x : Source := { feed := 3, slot := 1 }
    let away : Lane := { runningLane with primary := some { feed := 0, slot := 0 }, backup := some { feed := 2, slot := 0 } }
    let back : Lane := { away with primary := some x, active := .backup, autoReturn := true }
    (away.active = .primary ∧ away.primary = some { feed := 0, slot := 0 } ∧ knowsStream.hasSource away.primary = false ∧
      knowsStream.hasSource away.backup = true) ∧
    (back.active = .backup ∧ back.primary = some x ∧ back.backup ≠ some x ∧ back.autoReturn = true) ∧
    ({ away with primary := some x } : Lane).activeStream = some x ∧ laneReset.activeStream ≠ some x ∧
    laneReset.active = .primary := by decide +kernel

/-- A command that waits behind eight replies, with a carried line on feed 0: the state of the next two witnesses. -/
def stalled (n : Nat) : State :=
  { (State.reset.setPort 0 readingPort).setOutput 0 (.line plainLine) with
    commandQueue := List.replicate n waitingRead, replyQueue := fullReplies }

/-- One, three and four commands wait behind eight replies, none behind seven and behind eight; a COMMAND packet of the device
address, one that a row stands for, a broadcast that executes and one that does not. -/
theorem test_witness_CommandPacketIsTaken :
    (∀ n : Fin 4, (stalled (n.val + 1)).Reading 0 (makePacket 0x61#8 (writeFields [0, 7, 8])) ∧
      (stalled (n.val + 1)).settings.controlFeed = 0 ∧
      (stalled (n.val + 1)).commandQueue = waitingRead :: List.replicate n.val waitingRead ∧
      8 ≤ (stalled (n.val + 1)).replyQueue.length) ∧
    (stalled 3).commandQueue.length < 4 ∧ 4 ≤ (stalled 4).commandQueue.length ∧ waitingRead.broadcast = false ∧
    ((stalled 0).commandQueue = [] ∧ 8 ≤ (stalled 0).replyQueue.length ∧
      ({ stalled 0 with replyQueue := fullReplies.tail } : State).replyQueue.length < 8) ∧
    (readFields (makePacket 0x61#8 (writeFields [0, 7, 8])).payload = [State.reset.deviceAddress.val, 7, 8] ∧
      (makePacket 0x61#8 (writeFields [0, 7, 8])).good = true ∧
      ∀ v : State, exec (.clearStreams 7) v = .next (v.submit (v.ownCommand [7, 8]))) ∧
    (stalled 0).Reading 0 (makePacket 0x61#8 (writeFields [15, 7, 3, 255])) ∧
    readFields (makePacket 0x61#8 (writeFields [15, 7, 3, 255])).payload = [15, 7, 3, 255] ∧
    readFields (makePacket 0x61#8 (writeFields [15, 7, 8])).payload = [15, 7, 8] := by
  refine ⟨fun n => ⟨reading_bare ?_ (by decide +kernel) (by decide +kernel), by rfl, rfl, by rfl⟩, by decide +kernel,
    by decide +kernel, by decide +kernel, by decide +kernel, ⟨by decide +kernel, by decide +kernel, fun _ => rfl⟩,
    reading_bare (by decide +kernel) (by decide +kernel) (by decide +kernel), by decide +kernel, by decide +kernel⟩
  show (stalled (n.val + 1)).ports[(0 : Feed)] = readingPort
  simp [stalled]

/-! ### Witnesses: loss of feed and house ticks -/

/-- A stopped timer; one with 1 ns to go; and one that is due, in LOST. -/
theorem test_witness_LossTimerOutsideLoss :
    State.reset.paths[(0 : Feed)].lossTimer = none ∧
    (∃ s : State, s.paths[(0 : Feed)].lossTimer = some 0 ∧ s.now + 999999 < 0 + 1000000) ∧
    (∃ s : State, s.paths[(0 : Feed)].lossTimer = some 0 ∧ 0 + 1000000 ≤ s.now + 1000000 ∧
      s.paths[(0 : Feed)].timing = .lost) :=
  ⟨by decide +kernel, ⟨State.reset.setPath 0 { pathReset with lossTimer := some 0 }, by decide +kernel⟩,
    ⟨State.reset.setPath 0 { pathReset with lossTimer := some 0 }, by decide +kernel⟩⟩

/-- A carried line under NORMAL; a lane on a stream of the lost feed, in RUNNING, whose backup (3, 1) stays; and the lanes left as reset leaves them. -/
theorem test_witness_LossOfFeedRemovesItsStreams :
    ∃ s : State, s.paths[(2 : Feed)].lossTimer = some 0 ∧ 0 + 1000000 ≤ s.now + 1000000 ∧
      s.paths[(2 : Feed)].timing ≠ .lost ∧ s.paths[(2 : Feed)].inForce = .normal ∧
      s.outputs[(2 : Feed)] = .line plainLine ∧ s.lanes[(0 : LaneId)].active = .primary ∧
      s.lanes[(0 : LaneId)].primary = some { feed := 2, slot := 0 } ∧
      s.lanes[(0 : LaneId)].backup = some { feed := 3, slot := 1 } ∧ s.hasStream { feed := 2, slot := 0 } = true ∧
      s.hasStream { feed := 3, slot := 1 } = true ∧ s.lanes[(1 : LaneId)].primary = none ∧
      s.lanes[(2 : LaneId)].active = .backup :=
  ⟨((((({ State.reset.setStream 0 (some (entryOf 2 0)) with tableCount := 2 } : State).setStream 1
      (some (entryOf 3 1))).setPath 2 { followPath with lossTimer := some 0 }).setLane 0
      { runningLane with backup := some { feed := 3, slot := 1 } }).setLane 2
      { runningLane with backup := some { feed := 3, slot := 1 }, active := .backup }).setOutput 2 (.line plainLine),
    by decide +kernel⟩

/-- Each of the three rows is a tick somewhere. -/
theorem test_witness_Ticks :
    Ticks (.housePulse 0) State.reset 0 ∧ Ticks (.absenceTimerExpiry 100000000) State.reset 100000000 ∧
      Ticks (.freewheelTimerExpiry 40000000)
        { State.reset with tick := { tickReset 0 with reference := .absent, freewheelTimer := some 0 } } 40000000 :=
  ⟨.inl rfl, .inr (.inl ⟨rfl, rfl, 0, rfl, by decide⟩), .inr (.inr ⟨rfl, rfl, 0, rfl, by decide⟩)⟩

/-- The reference PRESENT before and after a first pulse, and ABSENT. For every tick: test_witness_Ticks. -/
theorem test_witness_HousePulseTicks :
    (State.reset.tick.reference = .present ∧ State.reset.tick.lastPulse.isSome = false) ∧
    (({ State.reset with tick := { tickReset 0 with lastPulse := some 0 } } : State).tick.lastPulse.isSome = true) ∧
    (({ State.reset with tick := { tickReset 0 with reference := .absent } } : State).tick.reference = .absent) := by
  decide +kernel

/-- Both timers exactly due and 1 ns short. -/
theorem test_witness_AbsenceAndFreewheelTick :
    (State.reset.tick.reference = .present ∧ State.reset.tick.absenceTimer = some 0 ∧
      0 + 100000000 ≤ State.reset.now + 100000000 ∧ State.reset.now + 99999999 < 0 + 100000000) ∧
    (∃ s : State, s.tick.reference = .absent ∧ s.tick.freewheelTimer = some 0 ∧
      0 + s.tick.period.getD 40000000 ≤ s.now + 40000000 ∧ s.now + 39999999 < 0 + s.tick.period.getD 40000000) :=
  ⟨by decide +kernel,
    ⟨{ State.reset with tick := { tickReset 0 with reference := .absent, freewheelTimer := some 0 } }, by decide +kernel⟩⟩

/-- An ABSENCE watch two and one short of its limit, at it, and EXPIRED at it; a TALLY watch at its limit; and one below
it. -/
theorem test_witness_WatchesCountTicksAndReport :
    (∀ n : Fin 2, (1 : Nat) ≤ n.val + 1 ∧
      let r : RuleEntry := { ruleReset 0 with watchMode := .absence, watchLimit := 2, watchCount := n.val }
      let s : State := State.reset.setRule 0 0 r
      s.rules[(0 : Feed)][(0 : RuleIndex)].watchMode = .absence ∧
        s.rules[(0 : Feed)][(0 : RuleIndex)].watchState = .armed ∧
        (s.rules[(0 : Feed)][(0 : RuleIndex)].watchCount + 1 = s.rules[(0 : Feed)][(0 : RuleIndex)].watchLimit ↔ n = 1)) ∧
    (∃ s : State, s.rules[(0 : Feed)][(0 : RuleIndex)].watchMode = .absence ∧
      s.rules[(0 : Feed)][(0 : RuleIndex)].watchState = .armed ∧
      s.rules[(0 : Feed)][(0 : RuleIndex)].watchCount = s.rules[(0 : Feed)][(0 : RuleIndex)].watchLimit) ∧
    (∃ s : State, s.rules[(0 : Feed)][(0 : RuleIndex)].watchMode = .absence ∧
      s.rules[(0 : Feed)][(0 : RuleIndex)].watchState = .expired ∧
      s.rules[(0 : Feed)][(0 : RuleIndex)].watchCount = s.rules[(0 : Feed)][(0 : RuleIndex)].watchLimit) ∧
    (∃ s : State, s.rules[(0 : Feed)][(0 : RuleIndex)].watchMode = .tally ∧
      s.rules[(0 : Feed)][(0 : RuleIndex)].watchCount = s.rules[(0 : Feed)][(0 : RuleIndex)].watchLimit) ∧
    State.reset.rules[(0 : Feed)][(0 : RuleIndex)].watchCount ≠ State.reset.rules[(0 : Feed)][(0 : RuleIndex)].watchLimit :=
  ⟨by decide +kernel,
    ⟨State.reset.setRule 0 0 { ruleReset 0 with watchMode := .absence, watchCount := 1 }, by decide +kernel⟩,
    ⟨State.reset.setRule 0 0 { ruleReset 0 with watchMode := .absence, watchState := .expired, watchCount := 1 },
      by decide +kernel⟩,
    ⟨State.reset.setRule 0 0 { ruleReset 0 with watchMode := .tally, watchCount := 1 }, by decide +kernel⟩,
    by decide +kernel⟩

/-- A window open on lane 0, with lane 1 elsewhere; and a stopped probe. -/
theorem test_witness_WindowFollows :
    (State.reset.setProbe { probeReset with run := .measuring 0 3 (openWork true) }).probe.run =
      .measuring 0 3 (openWork true) ∧ (1 : LaneId) ≠ 0 ∧
    ∀ (l : LaneId) (f : Feed) (w : ProbeWork), State.reset.probe.run ≠ .measuring l f w :=
  ⟨by decide +kernel, by decide, by intro _ _ _ h; cases h⟩

/-- The counter two and one short of A; a sweep called for and none; free entries and entries of each age. -/
theorem test_witness_SweepAgesAndRemoves :
    (({ State.reset with sweepCounter := 23 } : State).sweepCounter + 1 < State.reset.settings.sweepInterval) ∧
    State.reset.settings.sweepInterval ≤ ({ State.reset with sweepCounter := 24 } : State).sweepCounter + 1 ∧
    ({ State.reset with sweepReached := true } : State).sweepReached = true ∧ State.reset.sweepReached = false ∧
    State.reset.streams[(0 : Fin 48)] = none ∧ knowsStream.streams[(0 : Fin 48)] = some (entryOf 2 0) := by decide +kernel

/-- FOLLOW; LOST with NORMAL requested, with and without a line, in a generated frame with a line to come and with none; LOST
with BYPASS requested, on every path; and a probe that waits on a tick and one stopped, with the table not about to
sweep. -/
theorem test_witness_TickBeginsGeneratedFrames :
    (State.reset.setPath 0 followPath).paths[(0 : Feed)].timing = .follow ∧
    ((State.reset.setPath 0 { pathReset with requested := .normal }).paths[(0 : Feed)].timing ≠ .follow ∧
      (State.reset.setPath 0 { pathReset with requested := .normal }).paths[(0 : Feed)].requested = .normal) ∧
    (State.reset.setOutput 0 (.line plainLine)).outputs[(0 : Feed)] = .line plainLine ∧
    (∀ n : Fin 2, let g : GenFrame := { start := 0, period := 40000000, lines := 16, next := 15 + n.val, begun := 0 }
      (State.reset.setRaster 0 (some g)).rasters[(0 : Feed)] = some g ∧ (g.next < g.lines ↔ n = 0)) ∧
    (∀ p : Feed, State.reset.paths[p].timing ≠ .follow ∧ State.reset.paths[p].requested = .bypass) ∧
    (State.reset.setProbe { probeReset with run := .awaitTick 31 }).probe.run = .awaitTick 31 ∧
    State.reset.probe.run = .stopped ∧ State.reset.sweepCounter + 1 < State.reset.settings.sweepInterval := by
  decide +kernel

/-! ### Witnesses: output lines -/

/-- The last line of a frame of 16 lines and 1600 ns exactly at its time and 1 ns before it, on a dark output; no line left;
no frame; and a line in progress exactly at the end of its picture mark and 1 ns before it, whatever time that takes. -/
theorem test_witness_GeneratedLineBeginsInItsTime :
    (∀ n : Fin 2,
      let g : GenFrame := { start := 0, period := 1600, lines := 16, next := 15, begun := 0 }
      let s : State := { State.reset.setRaster 0 (some g) with now := 1499 + n.val }
      s.rasters[(0 : Feed)] = some g ∧ g.next < g.lines ∧ 0 < g.next ∧ s.outputs[(0 : Feed)] = .dark ∧
        (g.start * g.lines + g.next * g.period ≤ (s.now + 0) * g.lines ↔ n = 1)) ∧
    ({ start := 0, period := 1600, lines := 16, next := 16, begun := 0 } : GenFrame).lines ≤
      ({ start := 0, period := 1600, lines := 16, next := 16, begun := 0 } : GenFrame).next ∧
    State.reset.rasters[(0 : Feed)] = none ∧
    (∀ n : Fin 2, ∃ (s : State) (dt : Nat),
      let g : GenFrame := { start := 0, period := 1600, lines := 16, next := 15, begun := 2000 }
      let l : Line := { plainLine with generated := true }
      s.rasters[(0 : Feed)] = some g ∧ s.outputs[(0 : Feed)] = .line l ∧
        g.start * g.lines + g.next * g.period ≤ (s.now + dt) * g.lines ∧
        (g.begun + Config.writingTime 0 g.begun (3 + max l.blanking (l.placed.map Packet.size).sum + 3) ≤ s.now + dt ↔
          n = 1)) :=
  ⟨by decide +kernel, by decide +kernel, by decide +kernel, fun n =>
    ⟨(State.reset.setRaster 0 (some { start := 0, period := 1600, lines := 16, next := 15, begun := 2000 })).setOutput 0
        (.line { plainLine with generated := true }),
      1999 + Config.writingTime 0 2000 (3 + max 268 0 + 3) + n.val, by
      refine ⟨by decide +kernel, by decide +kernel, ?_, ?_⟩
      · show 0 * 16 + 15 * 1600 ≤ (0 + (1999 + Config.writingTime 0 2000 (3 + max 268 0 + 3) + n.val)) * 16
        omega
      · show 2000 + Config.writingTime 0 2000 (3 + max 268 0 + 3) ≤
          0 + (1999 + Config.writingTime 0 2000 (3 + max 268 0 + 3) + n.val) ↔ n = 1
        omega⟩⟩

/-- A path in FOLLOW under NORMAL with a line in progress on feed 0, the replies on feed 1, and Q one above the line's
index. -/
def quietState (l : Line) : State :=
  { ((State.reset.setOutput 0 (.line l)).setPath 0 followPath).setCarriage 0 { carriageReset with frameQuiet := 4 } with
    settings := settingsReset 1 }

/-- A line that has made no step and one that has made all; and an output without a line. -/
theorem test_witness_AssemblyStepsComeInOrder :
    (quietState plainLine).outputs[(0 : Feed)] = .line plainLine ∧ 4 ≤ ({ plainLine with made := 4 } : Line).made ∧
      (1 : Feed) ≠ 0 ∧ (∀ l : Line, State.reset.outputs[(0 : Feed)] ≠ .line l) :=
  ⟨by decide +kernel, by decide, by decide,
    fun l h => by have e : State.reset.outputs[(0 : Feed)] = .dark := by decide +kernel
                  exact absurd (e.symm.trans h) (by simp)⟩

/-- The last quiet line under NORMAL and under BYPASS, and a carriage line of the reply feed. -/
theorem test_witness_QuietLineCarriesItsInput :
    ((quietState plainLine).outputs[(0 : Feed)] = .line plainLine ∧ plainLine.made = 0 ∧
      (quietState plainLine).settings.replyFeed ≠ 0 ∧
      plainLine.index < (quietState plainLine).carriage[(0 : Feed)].frameQuiet ∧
      ∀ x : Slot, (quietState plainLine).routes[(0 : Feed)].live[x].armed = false) ∧
    ((quietState plainLine).setPath 0 pathReset).paths[(0 : Feed)].inForce = .bypass ∧
    (let s : State := State.reset.setOutput 0 (.line plainLine)
     s.outputs[(0 : Feed)] = .line plainLine ∧ s.settings.replyFeed = 0 ∧
       s.carriage[(0 : Feed)].frameQuiet ≤ plainLine.index ∧ s.paths[(0 : Feed)].inForce = .bypass) := by decide +kernel

/-- Two packets that claim slot 5, one that claims slot 7, one stripped, one with a bad sum, and a command left on the line. -/
def claimedLine : Line :=
  { plainLine with packets :=
      [{ packet := carriagePacket 5 0 [], origin := .decided false true },
        { packet := carriagePacket 5 1 [], origin := .decided false true },
        { packet := carriagePacket 7 0 [], origin := .decided false true },
        { packet := carriagePacket 5 2 [], origin := .decided true true },
        { packet := carriagePacket 5 3 [], origin := .decided false false },
        { packet := makePacket 0x61#8 [], origin := .leftCommand }] }

/-- A line in NORMAL whose slot 5 is armed with a policy, and its other slots not. -/
def armedState (policy : Policy) : State :=
  (quietState claimedLine).setRoute 0
    { routeReset with live := routeReset.live.set 5 { slotReset with armed := true, policy := policy } }

/-- Several collisions of one slot (R136, R137): under YIELD the first disarms it, and under OVERRIDE every one is removed,
the notice rising with each. -/
theorem test_collisions :
    let t := after (.outputLineAssembly 0 .passed) (armedState .yields)
    let u := after (.outputLineAssembly 0 .passed) (armedState .overrides)
    let rest := [carriagePacket 7 0 [], { carriagePacket 5 3 [] with kind := 0x6F#8 }, makePacket 0x61#8 []]
    t.outputs[(0 : Feed)] = .line { claimedLine with
      made := 1, placed := carriagePacket 5 0 [] :: carriagePacket 5 1 [] :: rest } ∧
    t.routes[(0 : Feed)].live[(5 : Slot)].armed = false ∧ (t.notice (.slotCollision 0 5)).generation = 1 ∧
    u.outputs[(0 : Feed)] = .line { claimedLine with made := 1, placed := rest } ∧
    u.routes[(0 : Feed)].live[(5 : Slot)].armed = true ∧ (u.notice (.slotCollision 0 5)).generation = 2 := by
  decide +kernel

/-- Slot 5 armed with each policy and claimed twice, slot 7 claimed and not armed, slot 0 neither. -/
theorem test_witness_CollisionFollowsThePolicy :
    ∀ policy ∈ [Policy.yields, .overrides],
      let s := armedState policy
      let claims := fun (y : LinePacket) (x : Slot) => decide (y.origin = .decided false true ∧ y.packet.kind = 0x60#8 ∧
        (y.packet.payload.head?.map fun head => head.toNat % 8) = some x.val)
      s.outputs[(0 : Feed)] = .line claimedLine ∧ claimedLine.made = 0 ∧ s.paths[(0 : Feed)].inForce = .normal ∧
        s.routes[(0 : Feed)].live[(5 : Slot)].armed = true ∧ s.routes[(0 : Feed)].live[(5 : Slot)].policy = policy ∧
        (claimedLine.packets.filter fun y => claims y 5).length = 2 ∧
        (claimedLine.packets.filter fun y => claims y 7).length = 1 ∧
        s.routes[(0 : Feed)].live[(7 : Slot)].armed = false ∧ ∀ y ∈ claimedLine.packets, claims y 0 = false := by
  decide +kernel

/-- The first carriage line (Q equal to its index), with one slot armed, under NORMAL with a set count of 1 and of 0, and
under BYPASS; and the last quiet line. -/
theorem test_witness_CarriageLinePopsAndCarries :
    (∀ n : Fin 2,
      let l : Line := { plainLine with made := 3 }
      let c : Carriage := { carriageReset with owed := n.val, frameQuiet := 3 }
      let s : State := (((quietState l).setCarriage 0 c).setRoute 0
        { routeReset with live := routeReset.live.set 2 { slotReset with armed := true } }).setLane 0 runningLane
      s.outputs[(0 : Feed)] = .line l ∧ l.made = 3 ∧
        s.paths[(0 : Feed)].inForce = .normal ∧ s.carriage[(0 : Feed)] = c ∧ c.frameQuiet ≤ l.index ∧
        dueOf c.frameCount c.frameLines c.linePosition = 0 ∧
        ((List.finRange 8).filter fun x => s.routes[(0 : Feed)].live[x].armed) = [2] ∧
        setCount (c.owed + 0) (some (l.room - packetsSize l.placed)) 1 = n.val) ∧
    (∃ s : State, s.outputs[(0 : Feed)] = .line { plainLine with made := 3 } ∧
      s.paths[(0 : Feed)].inForce = .bypass ∧ s.carriage[(0 : Feed)].frameQuiet ≤ plainLine.index) ∧
    plainLine.index < (quietState { plainLine with made := 3 }).carriage[(0 : Feed)].frameQuiet :=
  ⟨by decide +kernel,
    ⟨((quietState { plainLine with made := 3 }).setPath 0 pathReset).setCarriage 0 { carriageReset with frameQuiet := 3 },
      by decide +kernel⟩, by decide +kernel⟩

/-- The line of `quietState` on the reply feed. -/
def replyState (l : Line) (beacon : Bool) (queue : List Reply) : State :=
  { quietState l with settings := settingsReset 0, beaconPending := beacon, replyQueue := queue }

/-- A line with `made` steps made on which a packet takes `n` + 5 of 128 words. -/
def fullLine (made n : Nat) : Line :=
  { plainLine with room := 128, made := made, replies := true, placed := [makePacket 0x20#8 (List.replicate n 0#10)] }

/-- A beacon that just fits and one a word too long, with no record raised; two replies that just fit, the second of them a
word too long, and an overlong one on an empty line; and a command that waits behind eight replies, of which one fits. -/
theorem test_witness_ReplyFeedLineCarriesBeaconAndReply :
    (packetsSize (fullLine 1 106).placed + 17 = (fullLine 1 106).room ∧
      (fullLine 1 107).room < packetsSize (fullLine 1 107).placed + 17) ∧
    (∀ b : Bool, (replyState (fullLine 1 106) b []).outputs[(0 : Feed)] = .line (fullLine 1 106) ∧
      (replyState (fullLine 1 106) b []).settings.replyFeed = 0 ∧ (replyState (fullLine 1 106) b []).beaconPending = b) ∧
    (0 < 32768 ∧ ∀ k : Nat, k < 15 → Nat.testBit 0 k = false) ∧
    (let two : List Reply := [{ fields := [0, 0, 0] }, { fields := [0, 0, 0] }]
     packetsSize (fullLine 2 95).placed + (two.map Reply.size).sum = (fullLine 2 95).room ∧
     ((fullLine 2 96).room < packetsSize (fullLine 2 96).placed + (two.map Reply.size).sum ∧ (fullLine 2 96).placed ≠ [])) ∧
    (plainLine.placed = [] ∧ (128 : Nat) < ({ fields := List.replicate 42 0 } : Reply).size) ∧
    (let s : State := { replyState (fullLine 2 96) false fullReplies with commandQueue := [waitingRead] }
     s.replyQueue.length = 8 ∧ s.commandQueue = waitingRead :: [] ∧ waitingRead.broadcast = false ∧
       s.replyQueue = { fields := [0, 0, 0] } :: { fields := [0, 0, 0] } :: fullReplies.tail.tail) := by
  refine ⟨by decide +kernel, by decide +kernel, ⟨by decide, fun k _ => by simp⟩, by decide +kernel, by decide +kernel,
    by decide +kernel⟩

/-- A line of the reply feed that places a reply of just its room's length. -/
theorem test_witness_AddedPacketsFitTheRoom :
    ∃ (s t u : State) (v w : Line), s.outputs[(0 : Feed)] = .line { plainLine with room := 128 } ∧
      (∀ r ∈ s.replyQueue, r.size ≤ 128) ∧ s.replyQueue.map Reply.size = [128] ∧
      exec (.outputLineAssembly 0 .passed) s = .next t ∧ t.outputs[(0 : Feed)] = .line v ∧ v.placed = [] ∧
      exec (.outputLineAssembly 0 .carriage) s = .next u ∧ u.outputs[(0 : Feed)] = .line w ∧ w.placed.length = 1 :=
  ⟨replyState { plainLine with room := 128 } false [{ fields := List.replicate 41 0 }], _, _,
    { plainLine with room := 128, made := 1 },
    { plainLine with
      room := 128, made := 4, replies := true, placed := [({ fields := List.replicate 41 0 } : Reply).packet] },
    by decide +kernel, by decide +kernel, by decide +kernel, rfl, by decide +kernel, by decide +kernel, rfl,
    by decide +kernel, by decide +kernel⟩

/-! ### Witnesses: the control channel (each at the last index in range and the first outside it) -/

theorem test_witness_ReadsAnswerEveryField :
    State.reset.Ready ∧ (127#24 : Field).toNat = 16 * (7 : Feed).val + (15 : RuleIndex).val ∧
      128 ≤ (128#24 : Field).toNat ∧ (31#24 : Field).toNat = (31 : LaneId).val ∧ 32 ≤ (32#24 : Field).toNat := by
  decide +kernel

theorem test_witness_ReadsAnswerEveryField_others :
    knowsStream.Ready ∧ (63#24 : Field).toNat = 8 * (7 : Feed).val + (7 : Slot).val ∧ 64 ≤ (64#24 : Field).toNat ∧
      (0#24 : Field).toNat = (0 : Fin 48).val ∧ knowsStream.streams[(0 : Fin 48)] = some (entryOf 2 0) ∧
      (47#24 : Field).toNat = (47 : Fin 48).val ∧ knowsStream.streams[(47 : Fin 48)] = none ∧
      48 ≤ (48#24 : Field).toNat ∧ (7#24 : Field).toNat = (7 : Feed).val ∧ 8 ≤ (8#24 : Field).toNat ∧
      (31#24 : Field).toNat = (31 : LaneId).val ∧ 32 ≤ (32#24 : Field).toNat ∧ (0#24 : Field).toNat = 0 ∧
      (1#24 : Field).toNat ≠ 0 := by decide +kernel

/-- An entry with its value, set and source at the ends of their ranges, and each field one beyond its range. -/
theorem test_witness_RuleWriteJudgedWhole :
    (let x : RuleEntry := { ruleReset 15 with matchField := .span, value := 255, joined := 0xFFFF#16, watchMode := .tally }
     State.reset.Ready ∧ (127#24 : Field).toNat = 16 * (7 : Feed).val + (15 : RuleIndex).val ∧
       (0#24 : Field).toNat = yesNo x.enabled ∧ (2#24 : Field).toNat = x.matchField.code ∧
       (0#24 : Field).toNat = x.compare.code ∧ (255#24 : Field).toNat = x.value ∧ x.value ≤ 255 ∧
       (65535#24 : Field).toNat = x.joined.toNat ∧ (15#24 : Field).toNat = x.source.val ∧
       (0#24 : Field).toNat = yesNo x.strip ∧ (1#24 : Field).toNat = yesNo x.take ∧
       (2#24 : Field).toNat = x.watchMode.code) ∧
    2 ≤ (2#24 : Field).toNat ∧ 3 ≤ (3#24 : Field).toNat ∧ 256 ≤ (256#24 : Field).toNat ∧
    65536 ≤ (65536#24 : Field).toNat ∧ 16 ≤ (16#24 : Field).toNat ∧ 128 ≤ (128#24 : Field).toNat := by decide +kernel

/-- A descriptor that keeps the drain, one that moves it with no entry naming the lane, and one that an entry holds back. -/
theorem test_witness_LaneWriteJudgedWhole :
    (∀ drain : Feed,
      let d : LaneDescriptor :=
        { primary := some { feed := 7, slot := 7 }, backup := some { feed := 2, slot := 0 }, drain := drain, target := 1984
          window := 4, invertLeft := true, invertRight := false, autoReturn := true }
      State.reset.Ready ∧ (63#24 : Field).toNat = sourceCode d.primary ∧ (16#24 : Field).toNat = sourceCode d.backup ∧
        d.target = max 16 (min 1984 (1985#24 : Field).toNat) ∧ d.window = max 4 (min 256 (3#24 : Field).toNat) ∧
        (d.backup.isSome → d.primary.isSome ∧ d.primary ≠ d.backup) ∧
        (State.reset.lanes[(31 : LaneId)].drain = d.drain ↔ drain = 0) ∧
        ∀ f : Feed, f ≠ d.drain → State.reset.routes[f].names 31 = false) ∧
    (let s : State := State.reset.setRoute 0 { routeReset with
        shadow := routeReset.shadow.set 7 { slotReset with laneB := some 31 } }
     s.lanes[(31 : LaneId)].drain ≠ 1 ∧ (0 : Feed) ≠ 1 ∧ s.routes[(0 : Feed)].names 31 = true) ∧
    ((64#24 : Field).toNat ≠ 255 ∧ 64 ≤ (64#24 : Field).toNat) ∧ 8 ≤ (8#24 : Field).toNat ∧ 2 ≤ (2#24 : Field).toNat ∧
    ((16#24 : Field).toNat ≠ 255 ∧ (255#24 : Field).toNat = 255) ∧ 32 ≤ (32#24 : Field).toNat := by decide +kernel

/-- An entry of feed 7 that names lane 31, with a swap pending, with the lane drained elsewhere, and with neither. -/
theorem test_witness_RouteShadowWriteJudgedInOrder :
    (let e : SlotEntry := { slotReset with armed := true, laneA := some 31, channelMap := .monoSum }
     let s : State := State.reset.setLane 31 { laneReset with drain := 7 }
     State.reset.Ready ∧ (63#24 : Field).toNat = 8 * (7 : Feed).val + (7 : Slot).val ∧
       (1#24 : Field).toNat = yesNo e.armed ∧ (31#24 : Field).toNat = laneCode e.laneA ∧
       (255#24 : Field).toNat = laneCode e.laneB ∧ (4#24 : Field).toNat = e.channelMap.code ∧
       (State.reset.setRoute 7 { routeReset with swapPending := true }).routes[(7 : Feed)].swapPending = true ∧
       State.reset.routes[(7 : Feed)].swapPending = false ∧
       (e.names 31 = true ∧ State.reset.lanes[(31 : LaneId)].drain ≠ 7) ∧
       ∀ n : LaneId, e.names n = true → s.lanes[n].drain = 7) ∧
    (32 ≤ (32#24 : Field).toNat ∧ (32#24 : Field).toNat ≠ 255) ∧ 5 ≤ (5#24 : Field).toNat ∧ 2 ≤ (2#24 : Field).toNat ∧
    64 ≤ (64#24 : Field).toNat := by decide +kernel

/-- The rates at the ends of the range that a cadence admits, the rates refused, and the first index outside. -/
theorem test_witness_PathAndSettingsWritesJudgedWhole :
    State.reset.Ready ∧ (7#24 : Field).toNat = (7 : Feed).val ∧ (1#24 : Field).toNat = Mode.bypass.code ∧
      12000 / Nat.gcd (48000 * 1000) 12000 ≤ 16 ∧ 120000 / Nat.gcd (48000 * 1001) 120000 ≤ 16 ∧
      16 < 50000 / Nat.gcd (48000 * 1001) 50000 ∧ (11999#24 : Field).toNat < 12000 ∧ 120000 < (120001#24 : Field).toNat ∧
      (999#24 : Field).toNat ≠ 1000 ∧ (999#24 : Field).toNat ≠ 1001 ∧ 2 ≤ (2#24 : Field).toNat ∧
      8 ≤ (8#24 : Field).toNat := by decide +kernel

theorem test_witness_PathAndSettingsWritesJudgedWhole_settings :
    (let x : Settings := { controlFeed := 7, replyFeed := 0, sweepInterval := 255, beaconEnabled := false }
     State.reset.Ready ∧ (0#24 : Field).toNat = 0 ∧ (7#24 : Field).toNat = x.controlFeed.val ∧
       (0#24 : Field).toNat = x.replyFeed.val ∧ x.sweepInterval = max 1 (min 255 (256#24 : Field).toNat) ∧
       (0#24 : Field).toNat = yesNo x.beaconEnabled) ∧
    8 ≤ (8#24 : Field).toNat ∧ 2 ≤ (2#24 : Field).toNat ∧ (1#24 : Field).toNat ≠ 0 := by decide +kernel

/-- The sets 255 and 256, and feeds with and without a swap pending. -/
theorem test_witness_RouteCommandsArmAndCopy :
    (let armed : Vector Route 8 := Vector.replicate 8 { routeReset with swapPending := true }
     State.reset.commandQueue = [] ∧ State.reset.replyQueue.length < 8 ∧ (255#24 : Field).toNat ≤ 255 ∧
       255 < (256#24 : Field).toNat ∧
       ∀ p : Feed, armed[p] = if (255#24 : Field).toNat.testBit p.val then
         { State.reset.routes[p] with swapPending := true } else State.reset.routes[p]) ∧
    (7#24 : Field).toNat = (7 : Feed).val ∧ State.reset.routes[(7 : Feed)].swapPending = false ∧
    (State.reset.setRoute 7 { routeReset with swapPending := true }).routes[(7 : Feed)].swapPending = true ∧
    8 ≤ (8#24 : Field).toNat := by decide +kernel

/-- A RUNNING lane and an IDLE one; a lane on its backup with and without its primary's stream; a window open on the lane
and none; and lane references out of range. -/
theorem test_witness_LaneCommandsEmptyTheLane :
    (let s : State := knowsStream.setLane 0 { runningLane with active := .backup, backup := some { feed := 3, slot := 0 } }
     s.Ready ∧ (0#24 : Field).toNat = (0 : LaneId).val ∧ s.lanes[(0 : LaneId)].state ≠ .idle ∧
       s.lanes[(0 : LaneId)].active = .backup ∧ s.hasSource s.lanes[(0 : LaneId)].primary = true ∧
       s.lanes[(31 : LaneId)].state = .idle ∧ s.lanes[(31 : LaneId)].active = .primary ∧
       (s.setProbe { probeReset with run := .measuring 0 0 (openWork true) }).probe.run =
         .measuring 0 0 (openWork true)) ∧
    (let s : State := State.reset.setLane 0 { runningLane with active := .backup }
     s.lanes[(0 : LaneId)].active = .backup ∧ s.hasSource s.lanes[(0 : LaneId)].primary = false) ∧
    (∀ (f : Feed) (w : ProbeWork), State.reset.probe.run ≠ .measuring 0 f w) ∧ 32 ≤ (32#24 : Field).toNat :=
  ⟨by decide +kernel, by decide +kernel, (by intro _ _ h; cases h), by decide +kernel⟩

theorem test_witness_ResumeAndClearStreams :
    (∀ x : Fin 3,
      let timing : Timing := if x = 0 then .follow else if x = 1 then .lost else .recovered
      let s : State := State.reset.setPath 7 { pathReset with timing := timing }
      s.Ready ∧ s.paths[(7 : Feed)].timing = timing) ∧
    (7#24 : Field).toNat = (7 : Feed).val ∧ 8 ≤ (8#24 : Field).toNat ∧ knowsStream.Ready ∧ knowsStream.StreamLaw :=
  ⟨by decide +kernel, by decide +kernel, by decide +kernel, by decide +kernel, knowsStream_law⟩

theorem test_witness_StatusAndClearFollowTheNoticeTable :
    twoRaised.Ready ∧ (3967#24 : Field).toNat ≤ 3967 ∧ 3967 < (3968#24 : Field).toNat := by decide +kernel

/-- A record not raised, raised with another generation, raised and persisting, raised and not persisting; the last and the
first generation in and out of range; and a subject that names no record. -/
theorem test_witness_StatusAndClearFollowTheNoticeTable_clear :
    twoRaised.Ready ∧ (1#24 : Field).toNat = (Notice.inputLost 3).kind ∧ (3#24 : Field).toNat = (Notice.inputLost 3).subject ∧
      (255#24 : Field).toNat ≤ 255 ∧ (State.reset.notice (.inputLost 3)).raised = false ∧
      ((twoRaised.notice (.inputLost 3)).raised = true ∧ (twoRaised.notice (.inputLost 3)).generation ≠ 255) ∧
      ((twoRaised.notice (.inputLost 3)).generation = 4 ∧ twoRaised.persists (.inputLost 3) = true) ∧
      ((twoRaised.notice .houseLost).raised = true ∧ (twoRaised.notice .houseLost).generation = 1 ∧
        twoRaised.persists .houseLost = false) ∧ 255 < (256#24 : Field).toNat := by decide +kernel

theorem test_witness_StatusAndClearFollowTheNoticeTable_subject :
    ∀ n : Notice, (1#24 : Field).toNat ≠ n.kind ∨ (8#24 : Field).toNat ≠ n.subject := by
  intro n
  cases n <;> (simp [Notice.kind, Notice.subject]; try omega)

theorem test_witness_ProbeStartsAndStops :
    State.reset.Ready ∧ (31#24 : Field).toNat = (31 : LaneId).val ∧ (31 : LaneId) ≤ 31 ∧ (0#24 : Field).toNat = 0 ∧
      (1#24 : Field).toNat = 1 ∧ 4 ≤ (4#24 : Field).toNat ∧ 32 ≤ (32#24 : Field).toNat ∧ 2 ≤ (2#24 : Field).toNat ∧
      (4#24 : Field).toNat < (5#24 : Field).toNat := by decide +kernel

theorem test_witness_BadCommandsChangeNothing :
    State.reset.commandQueue = [] ∧ State.reset.replyQueue.length < 8 ∧ (Instr.badCommand [] true).wellFormed = true ∧
      (Instr.badCommand [9#10, 0#10, 0#10, 1#10, 0#10, 0#10, 9#10, 0#10, 0#10] true).wellFormed = true ∧
      readFields [9#10, 0#10, 0#10, 1#10, 0#10, 0#10, 9#10, 0#10, 0#10] = [9, 1, 9] ∧ readFields [] = [] ∧
      (Instr.broadcastDiscard [] true).wellFormed = true := by decide +kernel

/-- Three and four commands wait behind eight replies. -/
theorem test_witness_FullQueuesStallTheChannel :
    (stalled 3).commandQueue = waitingRead :: List.replicate 2 waitingRead ∧ waitingRead.broadcast = false ∧
      8 ≤ (stalled 3).replyQueue.length ∧ (stalled 3).commandQueue.length < 4 ∧
      (stalled 4).commandQueue = waitingRead :: List.replicate 3 waitingRead ∧ 4 ≤ (stalled 4).commandQueue.length := by
  decide +kernel

/-- A READ_ENTRY behind seven replies; and a command answered other than DONE. -/
theorem test_witness_ExecutedCommandsAreAnswered :
    (let s : State := { stalled 1 with replyQueue := fullReplies.tail }
     s.commandQueue = [waitingRead] ∧ waitingRead.broadcast = false ∧ s.replyQueue.length < 8) ∧
    (∀ op, waitingRead.decode = .ok op → op ≠ .restart) ∧
    (State.reset.judge { waitingRead with sumGood := false }).code = .badCommand := by
  refine ⟨by decide +kernel, fun op h => ?_, by decide +kernel⟩
  have e : waitingRead.decode = .ok (.readSettings 0) := by rfl
  rw [e] at h
  cases h
  simp

/-! ### Witnesses: words, cadence, lanes, slots and the probe -/

/-- Four sets at the ends of the sample range in phase 15, and a field at the end of its range. -/
theorem test_witness_EmittedPayloadsReadBack :
    (∀ x ∈ List.replicate 4 ({ left := -8388608, right := 8388607 } : SampleSet), x.InRange) ∧
      (List.replicate 4 ({ left := -8388608, right := 8388607 } : SampleSet)).length ≤ 4 ∧ 15 < 16 ∧
      ∀ v ∈ [0, 16777215], v ≤ 16777215 := by decide +kernel

theorem test_witness_CadenceCarriesExactly :
    12000 ≤ 120000 ∧ 5 = 120000 / Nat.gcd (48000 * 1001) 120000 ∧ 5 ≤ 16 ∧ carriageReset.fresh = true ∧
      carriageReset.accumulator = 0 ∧ 1 = 12000 / Nat.gcd (48000 * 1000) 12000 := by decide +kernel

/-- One line and the last line; a set count of 4 that just fits 240 words of eight slots, and one of 0. -/
theorem test_witness_DuesAndSetCounts :
    1 ≤ 1 ∧ (1114 : Nat) < 1115 ∧ 1115 ≤ 1115 ∧ 1 ≤ 8 ∧ (1 ≤ setCount 4 (some 240) 8 ∧ 6 * 8 * (4 + 1) ≤ 240) ∧
      setCount 4 (some 95) 8 = 0 := by decide +kernel

/-- Owed of 9, and of 8, at the frame start. -/
theorem test_witness_CarriageFrameStartFollowsTheCadence :
    ∀ n : Fin 2,
      let s : State := State.reset.setCarriage 0 { carriageReset with owed := 8 + n.val }
      (8 < s.carriage[(0 : Feed)].owed + (s.carriage[(0 : Feed)].frameCount - s.carriage[(0 : Feed)].given) ↔ n = 1) := by
  decide +kernel

/-- A lane on the stream with room for one set, a full one, and one on no stream. -/
theorem test_witness_ArrivingSetIsStored :
    (runningLane.activeStream = some { feed := 2, slot := 0 } ∧
      ({ runningLane with fifo := List.replicate 2047 zeroSet } : Lane).fifo.length < 2048 ∧
      2048 ≤ ({ runningLane with fifo := List.replicate 2048 zeroSet } : Lane).fifo.length) ∧
    laneReset.activeStream ≠ some { feed := 2, slot := 0 } := by decide +kernel

/-- A RUNNING lane popped for its one set and for one more, a lane that does not run, a lane of another feed, and a window
open on the lane. -/
theorem test_witness_LinePopsEveryDrainingLane :
    (let s : State := ((State.reset.setLane 0 runningLane).setLane 1 { runningLane with drain := 1 }).setProbe
      { probeReset with run := .measuring 0 0 (openWork true) }
     s.lanes[(0 : LaneId)].state = .running ∧ 1 ≤ s.lanes[(0 : LaneId)].fifo.length ∧
       s.lanes[(0 : LaneId)].fifo.length < 2 ∧ s.lanes[(0 : LaneId)].drain = 0 ∧ s.lanes[(1 : LaneId)].drain ≠ 0 ∧
       s.lanes[(2 : LaneId)].state ≠ .running ∧ s.probe.run = .measuring 0 0 (openWork true) ∧
       (openWork true).overLeft ≤ 255 ∧ (openWork true).overRight ≤ 255) ∧
    (∀ (n : LaneId) (w : ProbeWork), State.reset.probe.run = .measuring n 0 w → State.reset.lanes[n].drain ≠ 0) :=
  ⟨by decide +kernel, fun n w h => by cases h⟩

/-- T = 960 and W = 48: fills of 911, 912, 1008 and 1009, a lane that does not run, and a lane of another feed. -/
theorem test_witness_RegulationKeepsTheWindow :
    (let x := fun n : Nat => ({ runningLane with fifo := List.replicate n zeroSet } : Lane)
     (x 1009).state = .running ∧ (x 1009).drain = 0 ∧ (x 1009).target + (x 1009).window < (x 1009).fifo.length ∧
       (x 911).fifo.length + (x 911).window < (x 911).target ∧
       ((x 1008).fifo.length ≤ (x 1008).target + (x 1008).window ∧ (x 1008).target ≤ (x 1008).fifo.length + (x 1008).window) ∧
       ((x 912).fifo.length ≤ (x 912).target + (x 912).window ∧ (x 912).target ≤ (x 912).fifo.length + (x 912).window)) ∧
    laneReset.state ≠ .running ∧ ({ laneReset with drain := 1 } : Lane).drain ≠ 0 := by decide +kernel

/-- A lane whose primary (6, 3) is gone and whose backup (2, 0) is valid; a lane on its backup with its primary (2, 0)
valid, with its backup gone, with auto-return, and held on a valid backup. -/
theorem test_witness_FailoverAndReturnChecks :
    (let x : Lane := { runningLane with primary := some { feed := 6, slot := 3 }, backup := some { feed := 2, slot := 0 } }
     let s : State := knowsStream.setLane 0 x
     s.lanes[(0 : LaneId)].active = .primary ∧ x.primary.isSome ∧ s.hasSource x.primary = false ∧
       s.hasSource x.backup = true ∧ s.lanes[(1 : LaneId)].primary = none) ∧
    (let x : Lane := { runningLane with active := .backup, backup := some { feed := 6, slot := 3 } }
     let s : State := knowsStream.setLane 0 x
     s.lanes[(0 : LaneId)].active = .backup ∧ s.hasSource x.primary = true ∧ s.hasSource x.backup = false ∧
       ({ x with autoReturn := true } : Lane).autoReturn = true) ∧
    (let s : State := { knowsStream.setStream 1 (some (entryOf 6 3)) with tableCount := 2 }
     s.hasSource (some { feed := 6, slot := 3 }) = true ∧ runningLane.autoReturn = false) := by decide +kernel

/-- Sets at the ends of the range; their sums clip on both sides; and one lane absent. -/
theorem test_witness_SlotArithmeticIsExactOrSaturated :
    (∀ x, some ({ left := -8388608, right := 8388607 } : SampleSet) = some x → x.InRange) ∧
      slotReset.mute = false ∧ ({ slotReset with mute := true } : SlotEntry).mute = true ∧
      (slotReset.exact (some { left := -8388608, right := 8388607 }) (some { left := -1, right := 1 })).left < -8388608 ∧
      8388607 < (slotReset.exact (some { left := -8388608, right := 8388607 }) (some { left := -1, right := 1 })).right ∧
      InRange (slotReset.exact (some { left := -8388608, right := 8388607 }) none).left :=
  ⟨fun x h => by cases h; decide, by decide +kernel, by decide +kernel, by decide +kernel, by decide +kernel,
    by decide +kernel⟩

/-- A probe that waits on a frame; a stopped one, one that waits on a tick and one whose window is of another feed; and an
open window on the last lane of a SWEEP and below it. -/
theorem test_witness_ProbeWindowsOpenAndClose :
    (let s := fun r : ProbeRun => State.reset.setProbe
      { probeReset with settings := { mode := .sweep, first := 4, last := 6, trigger := .command }, run := r }
     (s (.awaitFrame 4)).probe.run = .awaitFrame 4 ∧ (s (.awaitTick 4)).probe.run = .awaitTick 4 ∧
       State.reset.probe.run = .stopped ∧ (s (.measuring 4 1 (openWork true))).probe.run = .measuring 4 1 (openWork true) ∧
       (1 : Feed) ≠ 0 ∧ (s (.measuring 6 0 (openWork true))).probe.run = .measuring 6 0 (openWork true) ∧
       (s (.awaitFrame 4)).probe.settings.last ≤ 6 ∧ (5 : LaneId) < (s (.awaitFrame 4)).probe.settings.last) := by
  decide +kernel

/-! ### Witnesses: the laws, on the part with a SWEEP waiting -/

theorem sweepWaits_steps : step sweepWaits = .next State.reset := rfl

theorem test_witness_StepKeepsQueueLaw : sweepWaits.QueueLaw ∧ step sweepWaits = .next State.reset :=
  ⟨by decide +kernel, sweepWaits_steps⟩

theorem test_witness_StepKeepsStreamLaw :
    ({ knowsStream with pending := [.sweep] } : State).StreamLaw ∧
      ({ knowsStream with pending := [.sweep] } : State).sweepReached = false ∧
      step { knowsStream with pending := [.sweep] } = .next knowsStream := ⟨knowsStream_law, rfl, rfl⟩

theorem test_witness_StepKeepsLaneLaws :
    sweepWaits.LaneLaw ∧ sweepWaits.SampleLaw ∧ step sweepWaits = .next State.reset := by
  have e : ∀ l : LaneId, sweepWaits.lanes[l] = laneReset := by decide +kernel
  refine ⟨fun l => ?_, fun l => ?_, sweepWaits_steps⟩
  · rw [e l]; decide
  · rw [e l]; simp [Lane.SampleLaw, laneReset, zeroSet]; decide

theorem test_witness_StepKeepsRouteLaw : sweepWaits.RouteLaw ∧ step sweepWaits = .next State.reset := by
  have e : ∀ f : Feed, sweepWaits.routes[f] = routeReset := by decide +kernel
  have n : ∀ l : LaneId, routeReset.names l = false := by decide +kernel
  refine ⟨fun f l h => ?_, sweepWaits_steps⟩
  rw [e f, n l] at h
  cases h

theorem test_witness_StepKeepsCarriageLaw : sweepWaits.CarriageLaw ∧ step sweepWaits = .next State.reset := by
  have e : ∀ f : Feed, sweepWaits.paths[f] = pathReset ∧ sweepWaits.carriage[f] = carriageReset := by decide +kernel
  refine ⟨fun f => ?_, sweepWaits_steps⟩
  rw [(e f).1, (e f).2]
  unfold carriageLaw
  decide +kernel

theorem test_witness_StepKeepsTimingLaw : sweepWaits.TimingLaw ∧ step sweepWaits = .next State.reset := by
  refine ⟨?_, sweepWaits_steps⟩
  unfold State.TimingLaw
  decide +kernel

end Sys2Proof.Tests
end

section
/-! SUPPORT. The classifier's decision (R43 to R45): which header values a packet has, what an entry's own comparison
says, when an entry holds, and which entry decides. -/

namespace Sys2Proof.Machine

/-! ### Header values (R43) -/

theorem Packet.header_kind (k : Packet) : k.header .kind = some k.kind.toNat := rfl

theorem Packet.header_span (k : Packet) : k.header .span = some k.payload.length := rfl

theorem Packet.header_slot (k : Packet) : k.header .slot = k.slot?.map fun x => x.val := rfl

/-- The pair slot of a head word is its low three bits (R11). -/
theorem headSlot_val (w : FeedWord) : (headSlot w).val = w.toNat % 8 := rfl

theorem Packet.slot?_of_head {k : Packet} {head : FeedWord} {rest : List FeedWord} (hkind : k.kind = kindCarriage)
    (hpayload : k.payload = head :: rest) : k.slot? = some (headSlot head) := by
  simp [Packet.slot?, hkind, hpayload]

theorem Packet.slot?_eq_none_iff (k : Packet) : k.slot? = none ↔ k.kind ≠ kindCarriage ∨ k.payload = [] := by
  by_cases hkind : k.kind = kindCarriage
  · simp [Packet.slot?, hkind]
  · simp [Packet.slot?, hkind]

/-! ### The own comparison of an entry (R44) -/

/-- With the header value at hand, EQUAL and UNEQUAL are the two senses of one comparison. -/
theorem RuleEntry.ownComparison_of_header_eq_some {e : RuleEntry} {k : Packet} {v : Nat}
    (h : k.header e.matchField = some v) :
    e.ownComparison k = (decide (v = e.value) == decide (e.compare = .equal)) := by
  rw [RuleEntry.ownComparison, h]
  cases e.compare with
  | equal => simp [beq_eq_decide]
  | unequal => simp [bne, beq_eq_decide]

/-- A comparison without its header value is false under both senses. -/
theorem RuleEntry.ownComparison_of_header_eq_none {e : RuleEntry} {k : Packet} (h : k.header e.matchField = none) :
    e.ownComparison k = false := by
  rw [RuleEntry.ownComparison, h]

/-! ### Entries that hold (R44) -/

/-- The check over all sixteen entries asks only the other joined ones. -/
theorem ruleHolds_iff (table : Vector RuleEntry 16) (k : Packet) (i : RuleIndex) :
    ruleHolds table k i = true ↔
      table[i].enabled = true ∧ table[i].ownComparison k = true ∧
        ∀ j : RuleIndex, table[i].joined.getLsbD j.val = true → j ≠ i → table[j].ownComparison k = true := by
  simp [ruleHolds, and_assoc, or_iff_not_imp_left]

/-! ### The decider (R45) -/

/-- The search takes the entries in rising order, so that what it finds is the first to hold. -/
theorem decide?_of_first {table : Vector RuleEntry 16} {k : Packet} {i : RuleIndex} (holds : ruleHolds table k i = true)
    (first : ∀ j : RuleIndex, j < i → ruleHolds table k j = false) :
    decide? table k =
      { decider := some i, action := some table[i].source, strip := table[table[i].source].strip
        take := table[table[i].source].take } := by
  have found : (List.finRange 16).find? (ruleHolds table k) = some i :=
    Fin.find?_eq_find?_finRange.symm.trans (Fin.find?_eq_some_iff.mpr ⟨holds, first⟩)
  rw [decide?, found]

theorem decide?_of_none {table : Vector RuleEntry 16} {k : Packet} (none_holds : ∀ i, ruleHolds table k i = false) :
    decide? table k = { decider := none, action := none, strip := false, take := true } := by
  have found : (List.finRange 16).find? (ruleHolds table k) = none :=
    Fin.find?_eq_find?_finRange.symm.trans (Fin.find?_eq_none_iff.mpr none_holds)
  rw [decide?, found]

/-- Settles O12: the table's half from `ruleHolds_iff` and the search, the entry's half from the header value that each
match field reads. -/
theorem firstHoldingRuleDecides : Obligations.FirstHoldingRuleDecides := by
  unfold Obligations.FirstHoldingRuleDecides
  refine ⟨fun table k => ⟨ruleHolds_iff table k, fun _ => decide?_of_first, decide?_of_none⟩,
    fun e k => ⟨fun field => ?kind, fun field => ?span, fun head rest field hkind hpayload => ?slot,
      fun field absent => ?noSlot⟩⟩
  case kind =>
    exact RuleEntry.ownComparison_of_header_eq_some (by rw [field, Packet.header_kind])
  case span =>
    exact RuleEntry.ownComparison_of_header_eq_some (by rw [field, Packet.header_span])
  case slot =>
    have value : k.header e.matchField = some (head.toNat % 8) := by
      rw [field, Packet.header_slot, Packet.slot?_of_head hkind hpayload, Option.map_some, headSlot_val]
    exact RuleEntry.ownComparison_of_header_eq_some value
  case noSlot =>
    have value : k.header e.matchField = none := by
      rw [field, Packet.header_slot, (Packet.slot?_eq_none_iff k).mpr absent, Option.map_none]
    exact RuleEntry.ownComparison_of_header_eq_none value

end Sys2Proof.Machine
end

section
/-! SUPPORT. One lane: what arrives at it (R79 to R82) and what its pops yield (R84 to R86). -/

namespace Sys2Proof.Machine

/-! ### Arrival (R79 to R82) -/

/-- A failing sample stores the hold value, whatever the inversion. -/
theorem storedValue_eq (invert : Bool) (hold : Int) (c : CheckedSample) :
    storedValue invert hold c =
      if c.passes = false then hold
      else if invert then (if c.value = -8388608 then 8388607 else -c.value) else c.value := by
  cases h : c.passes <;> simp [storedValue, negateSample, h]

theorem failingSamples_singleton (c : CheckedSet) :
    failingSamples [c] = (if c.left.passes then 0 else 1) + (if c.right.passes then 0 else 1) := by
  simp [failingSamples]

theorem State.storeSet_room {x : Source} {l : LaneId} (c : CheckedSet) {s : State}
    (onStream : s.lanes[l].activeStream = some x) (room : s.lanes[l].fifo.length < 2048) :
    s.storeSet x l c = s.setLane l (s.lanes[l].append c) :=
  (if_pos onStream).trans (if_pos room)

theorem State.storeSet_full {x : Source} {l : LaneId} (c : CheckedSet) {s : State}
    (onStream : s.lanes[l].activeStream = some x) (full : 2048 ≤ s.lanes[l].fifo.length) :
    s.storeSet x l c =
      (s.setLane l { s.lanes[l] with overrunTally := tally 1 s.lanes[l].overrunTally }).raise (.laneOverrun l) :=
  (if_pos onStream).trans (if_neg (Nat.not_lt.mpr full))

theorem State.storeSet_otherStream {x : Source} {l : LaneId} (c : CheckedSet) {s : State}
    (h : s.lanes[l].activeStream ≠ some x) : s.storeSet x l c = s :=
  if_neg h

/-- Settles O48: the three branches of `State.storeSet`; the stored values by `storedValue_eq`. -/
theorem arrivingSetIsStored : Obligations.ArrivingSetIsStored := by
  unfold Obligations.ArrivingSetIsStored
  intro s stream l c x left right hx hleft hright
  rw [← storedValue_eq] at hleft hright
  subst hx hleft hright
  refine ⟨fun onStream room => ?_, fun onStream full => ?_, State.storeSet_otherStream c⟩
  · rw [State.storeSet_room c onStream room]
    simp only [State.setLane, Lane.append, tally, failingSamples_singleton, List.length_append, List.length_singleton,
      Nat.add_assoc]
  · rw [State.storeSet_full c onStream full]
    rfl

/-! ### Pops (R84 to R86) -/

theorem Lane.pop_of_not_running {x : Lane} (h : x.state ≠ .running) : x.pop = (x, zeroSet) := by
  unfold Lane.pop
  cases hs : x.state with
  | running => exact absurd hs h
  | idle | priming | starved => rfl

theorem Lane.pop_cons {x : Lane} {y : SampleSet} {rest : List SampleSet} (running : x.state = .running)
    (fifo : x.fifo = y :: rest) : x.pop = ({ x with fifo := rest, lastOut := y }, y) := by
  simp [Lane.pop, running, fifo]

theorem Lane.pop_empty {x : Lane} (running : x.state = .running) (fifo : x.fifo = []) :
    x.pop = ({ x with starveTally := tally 1 x.starveTally, state := .starved }, zeroSet) := by
  simp [Lane.pop, running, fifo]

theorem Lane.popTimes_succ (k : Nat) (x : Lane) :
    x.popTimes (k + 1) = ((x.pop.1.popTimes k).1, x.pop.2 :: (x.pop.1.popTimes k).2) := rfl

theorem Lane.popTimes_of_not_running {x : Lane} (k : Nat) (h : x.state ≠ .running) :
    x.popTimes k = (x, List.replicate k zeroSet) := by
  induction k with
  | zero => rfl
  | succ k ih => rw [Lane.popTimes_succ, Lane.pop_of_not_running h, ih, List.replicate_succ]

theorem Lane.popTimes_of_fill {x : Lane} {k : Nat} (running : x.state = .running) (fill : k ≤ x.fifo.length) :
    x.popTimes k =
      ({ x with fifo := x.fifo.drop k, lastOut := (x.fifo.take k).getLast?.getD x.lastOut }, x.fifo.take k) := by
  induction k generalizing x with
  | zero => rfl
  | succ k ih =>
    cases fifo : x.fifo with
    | nil => simp [fifo] at fill
    | cons y rest =>
      have rest_fill : k ≤ rest.length := by simpa [fifo] using fill
      rw [Lane.popTimes_succ, Lane.pop_cons running fifo, ih (by exact running) rest_fill]
      simp [List.getLast?_cons]

/-- The pop that finds the lane empty starves it, and it does not run at the pops behind. -/
theorem Lane.popTimes_of_starves {x : Lane} {k : Nat} (running : x.state = .running) (short : x.fifo.length < k) :
    x.popTimes k =
      ({ x with
          fifo := [], lastOut := x.fifo.getLast?.getD x.lastOut, state := .starved
          starveTally := tally 1 x.starveTally },
        x.fifo ++ List.replicate (k - x.fifo.length) zeroSet) := by
  induction k generalizing x with
  | zero => exact absurd short (Nat.not_lt_zero _)
  | succ k ih =>
    rw [Lane.popTimes_succ]
    cases fifo : x.fifo with
    | nil =>
      rw [Lane.pop_empty running fifo, Lane.popTimes_of_not_running k (by simp)]
      simp [fifo, List.replicate_succ]
    | cons y rest =>
      have rest_short : rest.length < k := by simpa [fifo] using short
      rw [Lane.pop_cons running fifo, ih (by exact running) rest_short]
      simp [List.getLast?_cons]

theorem Lane.starves_iff (k : Nat) (x : Lane) : x.starves k = true ↔ x.state = .running ∧ x.fifo.length < k := by
  simp [Lane.starves]

end Sys2Proof.Machine
end

section
/-! SUPPORT. The level probe's window (R146): what it measures of the sets a lane yields, and what becomes of it when its
lane leaves RUNNING. -/

namespace Sys2Proof.Machine

/-! ### Peaks and overs (09, section 9.1) -/

/-- The highest magnitude among samples. -/
def peakOf (values : List Int) : Nat := (values.map magnitude).foldl max 0

/-- How many samples stand at full scale. -/
def oversOf (values : List Int) : Nat := (values.filter fullScale).length

theorem peakOf_cons (v : Int) (values : List Int) : peakOf (v :: values) = max (magnitude v) (peakOf values) := by
  rw [peakOf, List.map_cons, List.foldl_cons, Nat.max_comm, List.foldl_assoc, peakOf]

theorem oversOf_cons (v : Int) (values : List Int) :
    oversOf (v :: values) = (if fullScale v then 1 else 0) + oversOf values := by
  by_cases h : fullScale v = true <;> simp [oversOf, h, Nat.add_comm]

/-- An over counts one up to 255. -/
theorem overs_step {n : Nat} (v : Int) (h : n ≤ 255) :
    (if fullScale v then min 255 (n + 1) else n) = min 255 (n + if fullScale v then 1 else 0) := by
  split <;> omega

/-- Sets measured one by one are measured by their peaks and their overs. -/
theorem ProbeWork.foldl_measure (sets : List SampleSet) {w : ProbeWork} (hleft : w.overLeft ≤ 255)
    (hright : w.overRight ≤ 255) :
    sets.foldl ProbeWork.measure w =
      { peakLeft := max w.peakLeft (peakOf (sets.map SampleSet.left))
        peakRight := max w.peakRight (peakOf (sets.map SampleSet.right))
        overLeft := min 255 (w.overLeft + oversOf (sets.map SampleSet.left))
        overRight := min 255 (w.overRight + oversOf (sets.map SampleSet.right))
        running := w.running } := by
  induction sets generalizing w with
  | nil => simp [peakOf, oversOf, hleft, hright]
  | cons x sets ih =>
    have measured : w.measure x =
        { peakLeft := max w.peakLeft (magnitude x.left)
          peakRight := max w.peakRight (magnitude x.right)
          overLeft := min 255 (w.overLeft + if fullScale x.left then 1 else 0)
          overRight := min 255 (w.overRight + if fullScale x.right then 1 else 0)
          running := w.running } := by
      rw [ProbeWork.measure, overs_step x.left hleft, overs_step x.right hright]
    rw [List.foldl_cons, measured, ih (Nat.min_le_left _ _) (Nat.min_le_left _ _)]
    simp only [List.map_cons, peakOf_cons, oversOf_cons, ProbeWork.mk.injEq, Nat.max_assoc, true_and, and_true]
    omega

/-! ### The window's lane, and any other lane -/

theorem State.probeMeasure_frame (p : Feed) (l : LaneId) (sets : List SampleSet) (s : State) :
    s.probeMeasure p l sets = { s with probe := (s.probeMeasure p l sets).probe } := by
  unfold State.probeMeasure
  split
  · split <;> rfl
  · rfl

theorem State.probeLeft_frame (l : LaneId) (s : State) : s.probeLeft l = { s with probe := (s.probeLeft l).probe } := by
  unfold State.probeLeft
  split
  · split <;> rfl
  · rfl

theorem State.probeMeasure_of_noWindow {p : Feed} {l : LaneId} (sets : List SampleSet) {s : State}
    (h : ∀ w, s.probe.run ≠ .measuring l p w) : s.probeMeasure p l sets = s := by
  unfold State.probeMeasure
  split
  next n f w run =>
    have away : ¬(n = l ∧ f = p) := fun ⟨hn, hf⟩ => h w (by rw [run, hn, hf])
    rw [if_neg away]
  next => rfl

theorem State.probeMeasure_of_window {p : Feed} {l : LaneId} (sets : List SampleSet) {w : ProbeWork} {s : State}
    (h : s.probe.run = .measuring l p w) :
    s.probeMeasure p l sets = s.setProbe { s.probe with run := .measuring l p (sets.foldl ProbeWork.measure w) } := by
  simp [State.probeMeasure, h]

theorem State.probeLeft_of_noWindow {l : LaneId} {s : State} (h : ∀ f w, s.probe.run ≠ .measuring l f w) :
    s.probeLeft l = s := by
  unfold State.probeLeft
  split
  next n f w run =>
    have away : n ≠ l := fun hn => h f w (by rw [run, hn])
    rw [if_neg away]
  next => rfl

theorem State.probeLeft_of_window {l : LaneId} {f : Feed} {w : ProbeWork} {s : State}
    (h : s.probe.run = .measuring l f w) :
    s.probeLeft l = s.setProbe { s.probe with run := .measuring l f { w with running := false } } := by
  simp [State.probeLeft, h]

theorem State.probeLeft_windowFollows (l : LaneId) (s : State) : WindowFollows s (s.probeLeft l) fun n => n = l := by
  refine ⟨fun n f w run => ⟨fun hn => ?_, fun hn => ?_⟩, fun noWindow => ?_⟩
  · subst hn
    rw [State.probeLeft_of_window run, State.setProbe_probe]
  · rw [State.probeLeft_of_noWindow fun g v e => hn ?_]
    rw [run] at e
    exact (ProbeRun.measuring.inj e).1
  · rw [State.probeLeft_of_noWindow (noWindow l)]

end Sys2Proof.Machine
end

section
/-! SUPPORT. Emptying (R77), and the failover check and the return check that empty a lane (R88, R90). -/

namespace Sys2Proof.Machine

/-! ### Emptying (R77) -/

/-- Emptying changes the lane and its open window (R77, R146). -/
theorem State.emptyLane_frame (l : LaneId) (a : Active) (x : LaneState) (s : State) :
    s.emptyLane l a x = { s.setLane l (s.lanes[l].emptied a x) with probe := (s.emptyLane l a x).probe } :=
  State.probeLeft_frame l _

theorem State.emptyLane_windowFollows (l : LaneId) (a : Active) (x : LaneState) (s : State) :
    WindowFollows s (s.emptyLane l a x) fun n => n = l :=
  State.probeLeft_windowFollows l (s.setLane l (s.lanes[l].emptied a x))

/-! ### The two checks (R88, R90) -/

theorem State.failsOver_iff (l : LaneId) (s : State) :
    s.failsOver l = true ↔ s.lanes[l].active = .primary ∧ s.lanes[l].primary.isSome = true ∧
      s.hasSource s.lanes[l].primary = false ∧ s.hasSource s.lanes[l].backup = true := by
  simp [State.failsOver, and_assoc]

theorem State.returns_iff (l : LaneId) (s : State) :
    s.returns l = true ↔ s.lanes[l].active = .backup ∧ s.hasSource s.lanes[l].primary = true ∧
      (s.lanes[l].autoReturn = true ∨ s.hasSource s.lanes[l].backup = false) := by
  simp [State.returns, and_assoc]

/-- Settles O51: the conditions by `State.failsOver_iff` and `State.returns_iff`, what an acting check does by the frame of
the emptying. -/
theorem failoverAndReturnChecks : Obligations.FailoverAndReturnChecks := by
  unfold Obligations.FailoverAndReturnChecks
  intro s l x hx
  subst hx
  refine ⟨fun active present gone backup => ?failsOver, fun h => ?stays, fun active back auto => ?returns,
    fun h => ?held⟩
  case failsOver =>
    have acts : s.failsOver l = true := (s.failsOver_iff l).mpr ⟨active, present, gone, backup⟩
    refine ⟨_, if_pos acts, ?_, State.emptyLane_windowFollows l .backup .priming s⟩
    rw [State.emptyLane_frame]
    rfl
  case stays =>
    refine if_neg fun acts => ?_
    obtain ⟨active, present, gone, backup⟩ := (s.failsOver_iff l).mp acts
    rcases h with h | h | h | h
    · exact absurd (active.symm.trans h) (by decide)
    · simp only [h, Option.isSome_none, Bool.false_eq_true] at present
    · exact absurd (gone.symm.trans h) (by decide)
    · exact absurd (backup.symm.trans h) (by decide)
  case returns =>
    have acts : s.returns l = true := (s.returns_iff l).mpr ⟨active, back, auto⟩
    exact ⟨_, if_pos acts, State.emptyLane_frame l .primary .priming s,
      State.emptyLane_windowFollows l .primary .priming s⟩
  case held =>
    refine if_neg fun acts => ?_
    obtain ⟨active, back, auto⟩ := (s.returns_iff l).mp acts
    rcases h with h | h | ⟨manual, backup⟩
    · exact absurd (active.symm.trans h) (by decide)
    · exact absurd (back.symm.trans h) (by decide)
    · simp only [manual, backup, Bool.false_eq_true, Bool.true_eq_false, or_self] at auto

end Sys2Proof.Machine
end

section
/-! SUPPORT. The pops of a line (R84, R108): what the turn of one lane does to that lane, its notice and its window, and
that the turns of the others leave them. -/

namespace Sys2Proof.Machine

/-! ### One index among all -/

/-- A fold over the indices, followed by a fact: `P` holds until the turn of `i`, which makes `Q` of it. Unlike in
`forEach_at`, another turn has to keep a fact only where that fact holds. -/
theorem forEach_turn {n : Nat} (P Q : State → Prop) (f : Fin n → State → State) (s : State) (i : Fin n) (hs : P s)
    (hbefore : ∀ j t, j ≠ i → P t → P (f j t)) (hi : ∀ t, P t → Q (f i t))
    (hbehind : ∀ j t, j ≠ i → Q t → Q (f j t)) : Q (forEach f s) := by
  obtain ⟨before, behind, split⟩ := List.append_of_mem (List.mem_finRange i)
  have distinct := List.nodup_finRange n
  rw [split, List.nodup_middle, List.nodup_cons, List.mem_append, not_or] at distinct
  obtain ⟨⟨hbefore_mem, hbehind_mem⟩, -⟩ := distinct
  have whole : forEach f s = forList f behind (f i (forList f before s)) := by
    rw [forEach_eq_forList, split, forList_append]
    rfl
  have reached : P (forList f before s) := forList_keeps P f before s hs fun j hj t =>
    hbefore j t (ne_of_mem_of_not_mem hj hbefore_mem)
  rw [whole]
  exact forList_keeps Q f behind _ (hi _ reached) fun j hj t => hbehind j t (ne_of_mem_of_not_mem hj hbehind_mem)

/-! ### The turn of one lane -/

section

variable {p : Feed} {k : Nat} {l : LaneId} {s : State}

theorem State.popLane_of_otherFeed (h : s.lanes[l].drain ≠ p) : s.popLane p k l = s := if_neg h

theorem State.popLane_of_feed (h : s.lanes[l].drain = p) :
    s.popLane p k l =
      if s.lanes[l].starves k then
        (((s.setLane l (s.lanes[l].popTimes k).1).probeMeasure p l (s.lanes[l].popTimes k).2).raise
          (.laneStarved l)).probeLeft l
      else (s.setLane l (s.lanes[l].popTimes k).1).probeMeasure p l (s.lanes[l].popTimes k).2 :=
  if_pos h

/-- The turn of a draining lane: its pops, its notice if they starve it, and the probe. -/
theorem State.popLane_frame (h : s.lanes[l].drain = p) :
    s.popLane p k l =
      { s with
        lanes := s.lanes.set l (s.lanes[l].popTimes k).1
        notices := (if s.lanes[l].starves k then s.raise (.laneStarved l) else s).notices
        probe := (s.popLane p k l).probe } := by
  rw [State.popLane_of_feed h]
  split
  · rw [State.probeLeft_frame, State.probeMeasure_frame]
    rfl
  · rw [State.probeMeasure_frame]
    rfl

theorem State.popLane_lanes_same :
    (s.popLane p k l).lanes[l] = if s.lanes[l].drain = p then (s.lanes[l].popTimes k).1 else s.lanes[l] := by
  split
  next h =>
    rw [State.popLane_frame h]
    exact vector_set_same _ _ _
  next h => rw [State.popLane_of_otherFeed h]

theorem State.popLane_lanes_other {n : LaneId} (hn : n ≠ l) : (s.popLane p k l).lanes[n] = s.lanes[n] := by
  by_cases h : s.lanes[l].drain = p
  · rw [State.popLane_frame h]
    exact vector_set_other _ _ hn
  · rw [State.popLane_of_otherFeed h]

theorem State.popLane_notices :
    (s.popLane p k l).notices =
      (if s.lanes[l].drain = p ∧ s.lanes[l].starves k then s.raise (.laneStarved l) else s).notices := by
  by_cases h : s.lanes[l].drain = p
  · rw [State.popLane_frame h]
    simp only [h, true_and]
  · simp only [h, false_and, if_false, State.popLane_of_otherFeed h]

theorem State.popLane_notice_other {n : Notice} (hn : n ≠ .laneStarved l) :
    (s.popLane p k l).notice n = s.notice n := by
  rw [State.notice_congr State.popLane_notices]
  split
  · exact State.notice_raise_other s hn
  · rfl

theorem State.popLane_notice_laneStarved :
    (s.popLane p k l).notice (.laneStarved l) =
      if s.lanes[l].drain = p ∧ s.lanes[l].starves k then (s.notice (.laneStarved l)).raise
      else s.notice (.laneStarved l) := by
  rw [State.notice_congr State.popLane_notices]
  split
  · exact State.notice_raise_same s _
  · rfl

/-- The pops of a lane without an open window leave the probe. -/
theorem State.popLane_probe_of_noWindow (h : ∀ f w, s.probe.run ≠ .measuring l f w) :
    (s.popLane p k l).probe = s.probe := by
  by_cases drains : s.lanes[l].drain = p
  · rw [State.popLane_of_feed drains, State.probeMeasure_of_noWindow _ (by exact h p)]
    split
    · rw [State.probeLeft_of_noWindow (by exact h)]
      rfl
    · rfl
  · rw [State.popLane_of_otherFeed drains]

end

/-- What `k` pops of a draining lane `x` on a line of feed `p` make of the working record of a window of feed `f` open on
it (R146). -/
def ProbeWork.popped (p : Feed) (k : Nat) (f : Feed) (x : Lane) (w : ProbeWork) : ProbeWork :=
  let v := if f = p then (x.popTimes k).2.foldl ProbeWork.measure w else w
  if x.starves k then { v with running := false } else v

/-- On a line of another feed than the window's, only the running flag can change. -/
theorem ProbeWork.popped_otherFeed {p f : Feed} (h : f ≠ p) (k : Nat) (x : Lane) (w : ProbeWork) :
    w.popped p k f x = if x.starves k then { w with running := false } else w := by
  simp only [ProbeWork.popped, if_neg h]

theorem ProbeWork.popped_sameFeed (p : Feed) (k : Nat) (x : Lane) {w : ProbeWork} (hleft : w.overLeft ≤ 255)
    (hright : w.overRight ≤ 255) :
    w.popped p k p x =
      { peakLeft := max w.peakLeft (peakOf ((x.popTimes k).2.map SampleSet.left))
        peakRight := max w.peakRight (peakOf ((x.popTimes k).2.map SampleSet.right))
        overLeft := min 255 (w.overLeft + oversOf ((x.popTimes k).2.map SampleSet.left))
        overRight := min 255 (w.overRight + oversOf ((x.popTimes k).2.map SampleSet.right))
        running := w.running && !x.starves k } := by
  rw [ProbeWork.popped, if_pos rfl, ProbeWork.foldl_measure _ hleft hright]
  cases x.starves k <;> simp

theorem State.popLane_probe_of_window {p f : Feed} {k : Nat} {l : LaneId} {w : ProbeWork} {s : State}
    (drains : s.lanes[l].drain = p) (h : s.probe.run = .measuring l f w) :
    (s.popLane p k l).probe = { s.probe with run := .measuring l f (w.popped p k f s.lanes[l]) } := by
  have measured : ((s.setLane l (s.lanes[l].popTimes k).1).probeMeasure p l (s.lanes[l].popTimes k).2).probe =
      { s.probe with
        run := .measuring l f (if f = p then (s.lanes[l].popTimes k).2.foldl ProbeWork.measure w else w) } := by
    by_cases hf : f = p
    · subst hf
      rw [State.probeMeasure_of_window _ (by exact h), if_pos rfl]
      rfl
    · have noWindow : ∀ v, s.probe.run ≠ .measuring l p v := fun v e => by
        obtain ⟨-, sameFeed, -⟩ := ProbeRun.measuring.inj (h.symm.trans e)
        exact hf sameFeed
      rw [State.probeMeasure_of_noWindow _ (by exact noWindow), if_neg hf, ← h]
      rfl
  rw [State.popLane_of_feed drains, ProbeWork.popped]
  split
  · rw [State.probeLeft_of_window (by rw [State.raise_probe, measured]), State.setProbe_probe, State.raise_probe,
      measured]
  · exact measured

/-! ### The line -/

section

variable (p : Feed) (k : Nat) (s : State)

theorem State.popFeed_lanes (l : LaneId) :
    (s.popFeed p k).lanes[l] = if s.lanes[l].drain = p then (s.lanes[l].popTimes k).1 else s.lanes[l] :=
  forEach_at (fun t => t.lanes[l]) (fun _ => ()) (fun j t => t.popLane p k j) s l _
    (fun _ _ hj => State.popLane_lanes_other hj.symm) (fun _ _ => rfl)
    fun t _ ht => by rw [State.popLane_lanes_same, ht]

theorem State.popFeed_notice_laneStarved (l : LaneId) :
    (s.popFeed p k).notice (.laneStarved l) =
      if s.lanes[l].drain = p ∧ s.lanes[l].starves k then (s.notice (.laneStarved l)).raise
      else s.notice (.laneStarved l) := by
  have line := forEach_at (fun t => (t.lanes[l], t.notice (.laneStarved l))) (fun _ => ())
    (fun j t => t.popLane p k j) s l ((s.popLane p k l).lanes[l], (s.popLane p k l).notice (.laneStarved l))
    (fun j t hj => by
      have hn : Notice.laneStarved l ≠ .laneStarved j := fun e => hj (Notice.laneStarved.inj e).symm
      rw [State.popLane_lanes_other hj.symm, State.popLane_notice_other hn])
    (fun _ _ => rfl)
    fun t _ ht => by
      obtain ⟨hlane, hnotice⟩ := Prod.mk.inj ht
      rw [State.popLane_lanes_same, State.popLane_lanes_same, State.popLane_notice_laneStarved,
        State.popLane_notice_laneStarved, hlane, hnotice]
  exact (Prod.mk.inj line).2.trans State.popLane_notice_laneStarved

theorem State.popFeed_probe_of_noWindow {s : State} (h : ∀ l f w, s.probe.run ≠ .measuring l f w) :
    (s.popFeed p k).probe = s.probe :=
  forEach_keeps (fun t => t.probe = s.probe) _ s rfl fun l t ht =>
    (State.popLane_probe_of_noWindow (by rw [ht]; exact h l)).trans ht

/-- A window on a lane that does not drain to the line's feed stands; one on a draining lane has seen its pops. -/
theorem State.popFeed_probe_of_window {s : State} {l : LaneId} {f : Feed} {w : ProbeWork}
    (h : s.probe.run = .measuring l f w) :
    (s.popFeed p k).probe =
      { s.probe with run := .measuring l f (if s.lanes[l].drain = p then w.popped p k f s.lanes[l] else w) } := by
  have others : ∀ (j : LaneId) (t : State) (v : ProbeWork), j ≠ l → t.probe.run = .measuring l f v →
      (t.popLane p k j).probe = t.probe := fun j t v hj run =>
    State.popLane_probe_of_noWindow fun g u e => hj (ProbeRun.measuring.inj (run.symm.trans e)).1.symm
  refine forEach_turn (fun t => t.lanes[l] = s.lanes[l] ∧ t.probe = s.probe) (fun t => t.probe = _) _ s l ⟨rfl, rfl⟩
    (fun j t hj ⟨hlane, hprobe⟩ => ?before) (fun t ⟨hlane, hprobe⟩ => ?own) (fun j t hj hprobe => ?behind)
  case before =>
    exact ⟨(State.popLane_lanes_other hj.symm).trans hlane,
      (others j t w hj (by rw [hprobe, h])).trans hprobe⟩
  case own =>
    split
    next drains =>
      rw [State.popLane_probe_of_window (by rw [hlane, drains]) (by rw [hprobe, h]), hlane, hprobe]
    next away =>
      rw [State.popLane_of_otherFeed (by rw [hlane]; exact away), hprobe, ← h]
  case behind =>
    exact (others j t _ hj (by rw [hprobe])).trans hprobe

theorem State.popFeed_probe_results : (s.popFeed p k).probe.results = s.probe.results := by
  by_cases window : ∃ l f w, s.probe.run = .measuring l f w
  · obtain ⟨l, f, w, run⟩ := window
    rw [State.popFeed_probe_of_window p k run]
  · rw [State.popFeed_probe_of_noWindow p k fun l f w run => window ⟨l, f, w, run⟩]

/-- A line that measures nothing can still starve the lane of a window of another feed, whose running flag becomes no. -/
theorem State.popFeed_run_of_notMeasured {s : State}
    (h : ∀ (n : LaneId) (w : ProbeWork), s.probe.run = .measuring n p w → s.lanes[n].drain ≠ p) :
    (s.popFeed p k).probe.run = s.probe.run ∨
      ∃ (n : LaneId) (f : Feed) (w : ProbeWork), s.probe.run = .measuring n f w ∧
        (s.popFeed p k).probe.run = .measuring n f { w with running := false } := by
  by_cases window : ∃ l f w, s.probe.run = .measuring l f w
  · obtain ⟨l, f, w, run⟩ := window
    rw [State.popFeed_probe_of_window p k run]
    split
    next drains =>
      have otherFeed : f ≠ p := fun hf => h l w (hf ▸ run) drains
      rw [ProbeWork.popped_otherFeed otherFeed]
      split
      · exact .inr ⟨l, f, w, run, rfl⟩
      · exact .inl run.symm
    next => exact .inl run.symm
  · rw [State.popFeed_probe_of_noWindow p k fun l f w run => window ⟨l, f, w, run⟩]
    exact .inl rfl

end

/-- Settles O49: the pops of one lane in closed form, and the line lane by lane, each lane's turn alone touching its
record, its notice and its window. -/
theorem linePopsEveryDrainingLane : Obligations.LinePopsEveryDrainingLane := by
  unfold Obligations.LinePopsEveryDrainingLane
  refine ⟨fun x k => ⟨Lane.popTimes_of_not_running k, Lane.popTimes_of_fill, Lane.popTimes_of_starves⟩,
    fun s p k l => ⟨s.popFeed_lanes p k l, fun drains running short => ?starved, fun h => ?notStarved, ?measured,
      State.popFeed_run_of_notMeasured p k, s.popFeed_probe_results p k⟩⟩
  case starved =>
    have starves : s.lanes[l].starves k = true := (Lane.starves_iff k _).mpr ⟨running, short⟩
    rw [State.popFeed_notice_laneStarved, if_pos ⟨drains, starves⟩, NoticeRecord.raise]
  case notStarved =>
    rw [State.popFeed_notice_laneStarved, if_neg]
    rintro ⟨drains, starves⟩
    obtain ⟨running, short⟩ := (Lane.starves_iff k _).mp starves
    rcases h with away | stopped | fill
    · exact away drains
    · exact stopped running
    · exact Nat.not_lt.mpr fill short
  case measured =>
    intro w v sets peak overs run drains hsets hpeak hovers hleft hright hv
    subst hsets hpeak hovers hv
    rw [State.popFeed_probe_of_window p k run, if_pos drains, ProbeWork.popped_sameFeed p k _ hleft hright]
    rfl

end Sys2Proof.Machine
end

section
/-! SUPPORT. The arithmetic of the carriage unit: the dues of a frame (R105) and the set count of a line (R106, R107). -/

namespace Sys2Proof.Machine

/-! ### The dues of a frame (R105) -/

theorem dueOf_of_lt {count lines j : Nat} (h : j < lines) :
    dueOf count lines j = (j + 1) * count / lines - j * count / lines := if_pos h

theorem dueOf_of_le {count lines j : Nat} (h : lines ≤ j) : dueOf count lines j = 0 := if_neg (Nat.not_lt.mpr h)

/-- The next quotient of R105, from the one before it: a carry joins the quotient of the frame count. -/
theorem quotient_succ (count j : Nat) {lines : Nat} (h : 0 < lines) :
    (j + 1) * count / lines =
      j * count / lines + count / lines + if lines ≤ j * count % lines + count % lines then 1 else 0 := by
  rw [Nat.succ_mul, Nat.add_div h]

/-- The dues before line `m` have added up to its quotient: each next due takes the last quotient away again. -/
theorem sum_dueOf_range (count : Nat) {lines m : Nat} (h : m ≤ lines) :
    ((List.range m).map fun j => dueOf count lines j).sum = m * count / lines := by
  induction m with
  | zero => simp
  | succ m ih =>
    have rises : m * count / lines ≤ (m + 1) * count / lines :=
      Nat.div_le_div_right (Nat.mul_le_mul_right count (Nat.le_succ m))
    rw [List.sum_range_succ, ih (Nat.le_of_succ_le h), dueOf_of_lt h, Nat.add_sub_cancel' rises]

theorem sum_dueOf (count : Nat) {lines : Nat} (h : 0 < lines) :
    ((List.range lines).map fun j => dueOf count lines j).sum = count := by
  rw [sum_dueOf_range count le_rfl, Nat.mul_div_cancel_left count h]

theorem dueOf_eq_or_succ (count : Nat) {lines j : Nat} (h : j < lines) :
    dueOf count lines j = count / lines ∨ dueOf count lines j = count / lines + 1 := by
  rw [dueOf_of_lt h, quotient_succ count j (Nat.zero_lt_of_lt h), Nat.add_assoc, Nat.add_sub_cancel_left]
  split
  · exact .inr rfl
  · exact .inl rfl

/-! ### The set count of a line (R106, R107) -/

/-- The packets of `n` slots with `k` sets each take 6 × n × (k + 1) words. A count of 0 is what is left where not even
one set fits. -/
theorem le_roomCount_iff {room n k : Nat} (hn : 0 < n) : k ≤ roomCount room n ↔ k = 0 ∨ 6 * n * (k + 1) ≤ room := by
  have fits : k + 1 ≤ room / (6 * n) ↔ 6 * n * (k + 1) ≤ room := by
    rw [Nat.le_div_iff_mul_le (Nat.mul_pos (by decide) hn), Nat.mul_comm]
  rw [roomCount, ← fits]
  omega

theorem setCount_of_noRoom (owed n : Nat) : setCount owed none n = min 4 owed := rfl

theorem setCount_of_noSlot (owed room : Nat) : setCount owed (some room) 0 = min 4 owed := rfl

theorem setCount_of_slots (owed room : Nat) {n : Nat} (hn : 0 < n) :
    setCount owed (some room) n = min (min 4 owed) (roomCount room n) := if_neg hn.ne'

/-- Settles O46: the dues telescope (`sum_dueOf_range`), and `le_roomCount_iff` says which counts fit the room. -/
theorem duesAndSetCounts : Obligations.DuesAndSetCounts := by
  unfold Obligations.DuesAndSetCounts
  refine ⟨fun count lines hlines =>
      ⟨sum_dueOf count hlines, fun _ => dueOf_of_lt, fun _ => dueOf_eq_or_succ count, fun _ => dueOf_of_le⟩,
    fun owed room n hn => ⟨setCount_of_noRoom owed n, setCount_of_noSlot owed room, ?_⟩⟩
  rw [setCount_of_slots owed room hn]
  refine ⟨Nat.min_le_left _ _, fun positive => ?fits, fun k four within fits => ?largest⟩
  case fits =>
    exact ((le_roomCount_iff hn).mp (Nat.min_le_right _ _)).resolve_left (Nat.one_le_iff_ne_zero.mp positive)
  case largest =>
    exact Nat.le_min.mpr ⟨Nat.le_min.mpr ⟨four, within⟩, (le_roomCount_iff hn).mpr (.inr fits)⟩

end Sys2Proof.Machine
end

section
/-! SUPPORT. The frame start of the carriage unit (R100, R110): what it writes to its own record and to the notice table,
and that it writes nothing else. -/

namespace Sys2Proof.Machine

section

variable (p : Feed) (lines : Nat) (s : State)

/-- The record moves through the frame start, and an excess above 8 raises the notice of the feed. -/
theorem State.carriageFrameStart_frame :
    s.carriageFrameStart p lines =
      { s with
        carriage := s.carriage.set p
          (s.carriage[p].frameStart s.paths[p].fn s.paths[p].fd s.paths[p].quiet lines)
        notices := (if 8 < s.carriage[p].closedOwed then s.raise (.carriageShortfall p) else s).notices } := by
  unfold State.carriageFrameStart
  dsimp only
  split <;> rfl

theorem State.carriageFrameStart_carriage_same :
    (s.carriageFrameStart p lines).carriage[p] =
      s.carriage[p].frameStart s.paths[p].fn s.paths[p].fd s.paths[p].quiet lines := by
  rw [State.carriageFrameStart_frame]
  exact vector_set_same _ _ _

theorem State.carriageFrameStart_carriage_other {q : Feed} (hq : q ≠ p) :
    (s.carriageFrameStart p lines).carriage[q] = s.carriage[q] := by
  rw [State.carriageFrameStart_frame]
  exact vector_set_other _ _ hq

theorem State.carriageFrameStart_notices :
    (s.carriageFrameStart p lines).notices =
      (if 8 < s.carriage[p].closedOwed then s.raise (.carriageShortfall p) else s).notices := by
  rw [State.carriageFrameStart_frame]

end

/-- Settles O47: the new record is `Carriage.frameStart`, field by field, and the notices move by the excess alone. -/
theorem carriageFrameStartFollowsTheCadence : Obligations.CarriageFrameStartFollowsTheCadence := by
  unfold Obligations.CarriageFrameStartFollowsTheCadence
  intro s p lines x c d owed hx hc hd howed
  have record : d = c.frameStart x.fn x.fd x.quiet lines := by
    rw [hd, hx, hc, State.carriageFrameStart_carriage_same]
  have closed : s.carriage[p].closedOwed = owed := by rw [howed, hc, Carriage.closedOwed]
  have own : c.closedOwed = owed := by rw [hc, closed]
  subst record
  refine ⟨rfl, rfl, rfl, rfl, rfl, Nat.max_comm _ _, rfl, rfl, congrArg (min 8) own, ?shortfall, fun excess => ?raised,
    fun held => ?quiet, ?frame, fun q hq => State.carriageFrameStart_carriage_other p lines s hq⟩
  case shortfall => rw [← own]; rfl
  case raised =>
    rw [← State.notice_raise_same]
    apply State.notice_congr
    rw [State.carriageFrameStart_notices, closed, if_pos excess]
  case quiet => rw [State.carriageFrameStart_notices, closed, if_neg (Nat.not_lt.mpr held)]
  case frame => rw [State.carriageFrameStart_frame]

end Sys2Proof.Machine
end

section
/-! SUPPORT. Fill regulation (R114 to R116): the order of a lane by its fill and its window, the turn of one lane, and a
frame start lane by lane. -/

namespace Sys2Proof.Machine

/-! ### The order of a lane (R115) -/

section

variable {x : Lane}

theorem Lane.correction_of_above (running : x.state = .running) (above : x.target + x.window < x.fifo.length) :
    x.correction = .drop := by
  rw [Lane.correction, if_pos running, if_pos above]

/-- A fill below the window is not above it as well. -/
theorem Lane.correction_of_below (running : x.state = .running) (below : x.fifo.length + x.window < x.target) :
    x.correction = .repeatLast := by
  have notAbove : ¬ x.target + x.window < x.fifo.length := by omega
  rw [Lane.correction, if_pos running, if_neg notAbove, if_pos below]

theorem Lane.correction_of_notRunning (h : x.state ≠ .running) : x.correction = .leave := if_neg h

theorem Lane.correction_of_within (upper : x.fifo.length ≤ x.target + x.window)
    (lower : x.target ≤ x.fifo.length + x.window) : x.correction = .leave := by
  rw [Lane.correction, if_neg (Nat.not_lt.mpr upper), if_neg (Nat.not_lt.mpr lower), ite_self]

/-! ### An order carried out and counted (R87, R116) -/

theorem Lane.corrected_of_drop (h : x.correction = .drop) : x.corrected = { x with fifo := x.fifo.tail } := by
  rw [Lane.corrected, h, Lane.drop]

theorem Lane.corrected_of_repeatLast (h : x.correction = .repeatLast) :
    x.corrected = { x with fifo := x.lastOut :: x.fifo } := by
  rw [Lane.corrected, h, Lane.repeatLast]

theorem Lane.corrected_of_leave (h : x.correction = .leave) : x.corrected = x := by
  rw [Lane.corrected, h]

variable (r : Regulator)

theorem Regulator.captured_of_drop (h : x.correction = .drop) :
    r.captured x = { r with snapshot := x.fifo.length, drops := min 65535 (r.drops + 1) } := by
  simp only [Regulator.captured, h, tally]

theorem Regulator.captured_of_repeatLast (h : x.correction = .repeatLast) :
    r.captured x = { r with snapshot := x.fifo.length, repeats := min 65535 (r.repeats + 1) } := by
  simp only [Regulator.captured, h, tally]

theorem Regulator.captured_of_leave (h : x.correction = .leave) :
    r.captured x = { r with snapshot := x.fifo.length } := by
  rw [Regulator.captured, h]

end

/-! ### The turn of one lane (R114) -/

section

variable {p : Feed} {l : LaneId} {s : State}

theorem State.regulateLane_of_feed (h : s.lanes[l].drain = p) :
    s.regulateLane p l = (s.setRegulator l (s.regulators[l].captured s.lanes[l])).setLane l s.lanes[l].corrected :=
  if_pos h

theorem State.regulateLane_of_otherFeed (h : s.lanes[l].drain ≠ p) : s.regulateLane p l = s := if_neg h

theorem State.regulateLane_frame :
    s.regulateLane p l =
      { s with lanes := (s.regulateLane p l).lanes, regulators := (s.regulateLane p l).regulators } := by
  by_cases h : s.lanes[l].drain = p
  · rw [State.regulateLane_of_feed h]
    rfl
  · rw [State.regulateLane_of_otherFeed h]

theorem State.regulateLane_same :
    ((s.regulateLane p l).lanes[l], (s.regulateLane p l).regulators[l]) =
      if s.lanes[l].drain = p then (s.lanes[l].corrected, s.regulators[l].captured s.lanes[l])
      else (s.lanes[l], s.regulators[l]) := by
  split
  next h =>
    rw [State.regulateLane_of_feed h, State.setLane_same, State.setLane_regulators, State.setRegulator_same]
  next h => rw [State.regulateLane_of_otherFeed h]

theorem State.regulateLane_other {n : LaneId} (hn : n ≠ l) :
    ((s.regulateLane p l).lanes[n], (s.regulateLane p l).regulators[n]) = (s.lanes[n], s.regulators[n]) := by
  by_cases h : s.lanes[l].drain = p
  · rw [State.regulateLane_of_feed h, State.setLane_other _ _ _ hn, State.setLane_regulators,
      State.setRegulator_other _ _ _ hn, State.setRegulator_lanes]
  · rw [State.regulateLane_of_otherFeed h]

end

/-! ### The frame start -/

section

variable (p : Feed) (s : State)

theorem State.regulate_frame :
    s.regulate p = { s with lanes := (s.regulate p).lanes, regulators := (s.regulate p).regulators } :=
  forEach_keeps (fun t => t = { s with lanes := t.lanes, regulators := t.regulators }) _ s rfl fun l t ht => by
    rw [State.regulateLane_frame, ht]

/-- A lane and its record see their own turn alone, which starts from what they held at the frame start. -/
theorem State.regulate_at (l : LaneId) :
    ((s.regulate p).lanes[l], (s.regulate p).regulators[l]) =
      if s.lanes[l].drain = p then (s.lanes[l].corrected, s.regulators[l].captured s.lanes[l])
      else (s.lanes[l], s.regulators[l]) :=
  forEach_at (fun t => (t.lanes[l], t.regulators[l])) (fun _ => ()) (fun j t => t.regulateLane p j) s l _
    (fun _ _ hj => State.regulateLane_other hj.symm) (fun _ _ => rfl) fun t _ ht => by
      obtain ⟨hlane, hregulator⟩ := Prod.mk.inj ht
      rw [State.regulateLane_same, hlane, hregulator]

theorem State.regulate_notices : (s.regulate p).notices = s.notices := by
  rw [State.regulate_frame]

variable {p s} {l : LaneId}

theorem State.regulate_of_feed (h : s.lanes[l].drain = p) :
    (s.regulate p).lanes[l] = s.lanes[l].corrected ∧
      (s.regulate p).regulators[l] = s.regulators[l].captured s.lanes[l] :=
  Prod.mk.inj ((State.regulate_at p s l).trans (if_pos h))

theorem State.regulate_of_otherFeed (h : s.lanes[l].drain ≠ p) :
    (s.regulate p).lanes[l] = s.lanes[l] ∧ (s.regulate p).regulators[l] = s.regulators[l] :=
  Prod.mk.inj ((State.regulate_at p s l).trans (if_neg h))

end

/-- Settles O50: a draining lane and its record come out corrected and captured (`State.regulate_of_feed`), as the order
says that its fill and window give. -/
theorem regulationKeepsTheWindow : Obligations.RegulationKeepsTheWindow := by
  unfold Obligations.RegulationKeepsTheWindow
  rintro s p l x r rfl rfl
  refine ⟨fun drains running above => ?drop, fun drains running below => ?repeatLast, fun drains h => ?leave,
    State.regulate_of_otherFeed, State.regulate_notices p s⟩
  all_goals obtain ⟨hlane, hregulator⟩ := State.regulate_of_feed drains
  case drop =>
    have order := Lane.correction_of_above running above
    exact ⟨hlane.trans (Lane.corrected_of_drop order), hregulator.trans (Regulator.captured_of_drop _ order)⟩
  case repeatLast =>
    have order := Lane.correction_of_below running below
    exact ⟨hlane.trans (Lane.corrected_of_repeatLast order), hregulator.trans (Regulator.captured_of_repeatLast _ order)⟩
  case leave =>
    have order : s.lanes[l].correction = .leave := h.elim Lane.correction_of_notRunning fun ⟨upper, lower⟩ =>
      Lane.correction_of_within upper lower
    exact ⟨hlane.trans (Lane.corrected_of_leave order), hregulator.trans (Regulator.captured_of_leave _ order)⟩

end Sys2Proof.Machine
end

section
/-! SUPPORT. The level probe at a frame start (R145, R147): what a window that opens and one that closes make of the probe,
and the run by the mode. -/

namespace Sys2Proof.Machine

/-! ### The run after a window has closed (R145, table) -/

theorem nextLane_val {l m : LaneId} (h : l < m) : (nextLane l).val = l.val + 1 :=
  Nat.mod_eq_of_lt ((Nat.succ_le_of_lt h).trans_lt m.isLt)

/-- The lane whose turn it is once a window of lane `l` has closed; a run that ends stays at its lane. -/
def ProbeSettings.laneBehind (x : ProbeSettings) (l : LaneId) : LaneId :=
  match x.mode with
  | .single => l
  | .repeating => l
  | .sweep => if l < x.last then nextLane l else l
  | .repeatSweep => if l < x.last then nextLane l else x.first

theorem ProbeSettings.laneBehind_val (x : ProbeSettings) (l : LaneId) :
    (x.laneBehind l).val = match x.mode with
      | .single => l.val
      | .repeating => l.val
      | .sweep => if l < x.last then l.val + 1 else l.val
      | .repeatSweep => if l < x.last then l.val + 1 else x.first.val := by
  unfold ProbeSettings.laneBehind
  cases x.mode with
  | single | repeating => rfl
  | sweep | repeatSweep =>
    dsimp only
    split
    next below => exact nextLane_val below
    next => rfl

/-- Whether the run ends with the window of lane `l`: a SINGLE always, a SWEEP at its last lane. -/
def ProbeSettings.endsWith (x : ProbeSettings) (l : LaneId) : Bool :=
  x.mode == .single || x.mode == .sweep && decide (x.last ≤ l)

theorem ProbeSettings.advance_eq (x : ProbeSettings) (l : LaneId) :
    x.advance l = if x.endsWith l then .stopped else .awaitFrame (x.laneBehind l) := by
  unfold ProbeSettings.advance ProbeSettings.endsWith ProbeSettings.laneBehind
  cases x.mode with
  | single | repeating => rfl
  | sweep => by_cases below : l < x.last <;> simp [below, Fin.not_le.mpr, Fin.not_lt.mp]
  | repeatSweep => by_cases below : l < x.last <;> simp [below]

section

variable {s : State} {f : Feed} {l : LaneId} {w : ProbeWork}

/-! ### A window opens -/

/-- What a frame start of feed `f` makes of a run that waits on lane `l`. -/
def State.runOpened (f : Feed) (l : LaneId) (s : State) : ProbeRun :=
  if s.lanes[l].drain = f then .measuring l f (openWork (s.lanes[l].state == .running)) else .awaitFrame l

theorem State.probeOpen_of_awaitFrame (h : s.probe.run = .awaitFrame l) :
    s.probeOpen f = s.setProbe { s.probe with run := s.runOpened f l } := by
  unfold State.runOpened State.probeOpen
  simp only [h]
  split
  next => rfl
  next =>
    rw [← h]
    rfl

theorem State.probeOpen_of_notWaiting (h : ∀ l, s.probe.run ≠ .awaitFrame l) : s.probeOpen f = s := by
  unfold State.probeOpen
  split
  next l run => exact absurd run (h l)
  next => rfl

/-! ### A window closes -/

/-- The result records once a window of lane `l` has closed. -/
def Probe.resultsClosed (l : LaneId) (w : ProbeWork) (x : Probe) : Vector ProbeResult 32 :=
  x.results.set l (closeResult w x.results[l])

theorem State.probeClose_of_ends (h : s.probe.settings.endsWith l = true) :
    s.probeClose l w =
      (s.setProbe { s.probe with run := .stopped, results := s.probe.resultsClosed l w }).raise .probeDone := by
  have advance : s.probe.settings.advance l = .stopped := by rw [ProbeSettings.advance_eq, if_pos h]
  unfold State.probeClose
  rw [advance]
  rfl

theorem State.probeClose_of_goesOn (h : s.probe.settings.endsWith l = false) :
    s.probeClose l w =
      s.setProbe { s.probe with
        run := .awaitFrame (s.probe.settings.laneBehind l), results := s.probe.resultsClosed l w } := by
  have advance : s.probe.settings.advance l = .awaitFrame (s.probe.settings.laneBehind l) := by
    rw [ProbeSettings.advance_eq, h]
    rfl
  unfold State.probeClose
  rw [advance]
  rfl

/-! ### The frame start -/

theorem State.probeFrameStart_of_noWindow (h : ∀ l g w, s.probe.run ≠ .measuring l g w) :
    s.probeFrameStart f = s.probeOpen f := by
  unfold State.probeFrameStart
  split
  next l g w run => exact absurd run (h l g w)
  next => rfl

theorem State.probeFrameStart_of_idle (noWindow : ∀ l g w, s.probe.run ≠ .measuring l g w)
    (notWaiting : ∀ l, s.probe.run ≠ .awaitFrame l) : s.probeFrameStart f = s :=
  (State.probeFrameStart_of_noWindow noWindow).trans (State.probeOpen_of_notWaiting notWaiting)

theorem State.probeFrameStart_of_otherWindow {g : Feed} (h : s.probe.run = .measuring l g w) (hg : g ≠ f) :
    s.probeFrameStart f = s := by
  simp [State.probeFrameStart, h, hg]

theorem State.probeFrameStart_of_window (h : s.probe.run = .measuring l f w) :
    s.probeFrameStart f = (s.probeClose l w).probeOpen f := by
  simp [State.probeFrameStart, h]

/-- A stopped probe opens no window, so the frame start that ends a run leaves the close alone. -/
theorem State.probeFrameStart_of_ends (h : s.probe.run = .measuring l f w)
    (ends : s.probe.settings.endsWith l = true) :
    s.probeFrameStart f =
      (s.setProbe { s.probe with run := .stopped, results := s.probe.resultsClosed l w }).raise .probeDone := by
  rw [State.probeFrameStart_of_window h, State.probeClose_of_ends ends]
  exact State.probeOpen_of_notWaiting fun _ => ProbeRun.noConfusion

/-- The frame start that closed a window is tested once more, on the lane behind; closing has left the lanes. -/
theorem State.probeFrameStart_of_goesOn (h : s.probe.run = .measuring l f w)
    (goesOn : s.probe.settings.endsWith l = false) :
    s.probeFrameStart f =
      s.setProbe { s.probe with
        run := s.runOpened f (s.probe.settings.laneBehind l), results := s.probe.resultsClosed l w } := by
  rw [State.probeFrameStart_of_window h, State.probeClose_of_goesOn goesOn]
  exact State.probeOpen_of_awaitFrame rfl

end

/-- Settles O53: a waiting run opens (`State.probeOpen_of_awaitFrame`); a window of the feed closes and the run ends or opens
on the lane behind (`State.probeFrameStart_of_ends`, `State.probeFrameStart_of_goesOn`); any other run stands. -/
theorem probeWindowsOpenAndClose : Obligations.ProbeWindowsOpenAndClose := by
  unfold Obligations.ProbeWindowsOpenAndClose
  intro s f opens hopens
  obtain rfl : opens = fun l => s.runOpened f l := funext hopens
  refine ⟨fun l waits => ?opened, fun idle => ?stands, fun l w results ends next run hresults hends hnext => ?closed⟩
  case opened =>
    rw [State.probeFrameStart_of_noWindow (by simp [waits])]
    exact State.probeOpen_of_awaitFrame waits
  case stands =>
    rcases idle with run | ⟨l, run⟩ | ⟨l, g, w, run, otherFeed⟩
    · exact State.probeFrameStart_of_idle (by simp [run]) (by simp [run])
    · exact State.probeFrameStart_of_idle (by simp [run]) (by simp [run])
    · exact State.probeFrameStart_of_otherWindow run otherFeed
  case closed =>
    obtain rfl : next = s.probe.settings.laneBehind l :=
      Fin.ext (hnext.trans (s.probe.settings.laneBehind_val l).symm)
    subst hresults hends
    exact ⟨State.probeFrameStart_of_ends run, State.probeFrameStart_of_goesOn run⟩

end Sys2Proof.Machine
end

section
/-! SUPPORT. Frames read off veils: what an operation leaves alone, as an equation for the state after it. -/

namespace Sys2Proof.Machine

/-! ### The frame that a veil states -/

section

variable {s t : State}

theorem State.eq_of_veilProbe (h : ∀ d, t.veilProbe d = s.veilProbe d) :
    t = { s with probe := t.probe, notices := t.notices } := h t

theorem State.eq_of_veilLanes (h : ∀ d, t.veilLanes d = s.veilLanes d) :
    t = { s with lanes := t.lanes, probe := t.probe, notices := t.notices } := h t

theorem State.eq_of_veilTable (h : ∀ d, t.veilTable d = s.veilTable d) :
    t = { s with
      lanes := t.lanes, probe := t.probe, notices := t.notices, streams := t.streams, tableCount := t.tableCount
      sweepCounter := t.sweepCounter, sweepReached := t.sweepReached, freeCount := t.freeCount } := h t

theorem State.eq_of_veilFrame (h : ∀ d, t.veilFrame d = s.veilFrame d) :
    t = { s with
      lanes := t.lanes, probe := t.probe, notices := t.notices, carriage := t.carriage, routes := t.routes
      regulators := t.regulators } := h t

theorem State.eq_of_veilRules (h : ∀ d, t.veilRules d = s.veilRules d) :
    t = { s with rules := t.rules, notices := t.notices } := h t

theorem State.eq_of_veilTick (h : ∀ d, t.veilTick d = s.veilTick d) :
    t = { s with
      lanes := t.lanes, probe := t.probe, notices := t.notices, streams := t.streams, tableCount := t.tableCount
      sweepCounter := t.sweepCounter, sweepReached := t.sweepReached, freeCount := t.freeCount
      carriage := t.carriage, routes := t.routes, regulators := t.regulators, paths := t.paths, rasters := t.rasters
      outputs := t.outputs, written := t.written } := h t

end

/-! ### Frames of the shared operations -/

section

variable (s : State)

/-- The end of a line changes only the words written on its output. -/
theorem State.endLine_frame (p : Feed) : s.endLine p = { s with written := (s.endLine p).written } := by
  unfold State.endLine
  split <;> rfl

theorem State.endAtMarker_frame (p : Feed) : s.endAtMarker p = { s with written := (s.endAtMarker p).written } := by
  unfold State.endAtMarker
  split
  · exact s.endLine_frame p
  · exact s.cutLine_frame p

theorem State.endAtTick_frame (p : Feed) : s.endAtTick p = { s with written := (s.endAtTick p).written } := by
  unfold State.endAtTick
  split
  · exact s.endLine_frame p
  · split
    · exact s.cutLine_frame p
    · exact s.endLine_frame p

theorem State.probeFrameStart_frame (f : Feed) : s.probeFrameStart f = { s with
    probe := (s.probeFrameStart f).probe, notices := (s.probeFrameStart f).notices } :=
  State.eq_of_veilProbe fun d => State.probeFrameStart_veil d f s

theorem State.popFeed_frame (p : Feed) (k : Nat) : s.popFeed p k = { s with
    lanes := (s.popFeed p k).lanes, probe := (s.popFeed p k).probe, notices := (s.popFeed p k).notices } :=
  State.eq_of_veilLanes fun d => State.popFeed_veil d p k s

theorem State.feedFrameStart_frame (p : Feed) (lines : Nat) : s.feedFrameStart p lines = { s with
    lanes := (s.feedFrameStart p lines).lanes, probe := (s.feedFrameStart p lines).probe
    notices := (s.feedFrameStart p lines).notices, carriage := (s.feedFrameStart p lines).carriage
    routes := (s.feedFrameStart p lines).routes, regulators := (s.feedFrameStart p lines).regulators } :=
  State.eq_of_veilFrame fun d => State.feedFrameStart_veil d p lines s

theorem State.tickWatches_frame : s.tickWatches = { s with
    rules := s.tickWatches.rules, notices := s.tickWatches.notices } :=
  State.eq_of_veilRules fun d => State.tickWatches_veil d s

end

end Sys2Proof.Machine
end

section
/-! SUPPORT. What a command is made of. A move is one write of the block with what the writer has checked; every operation
of the model is a run of moves, so a law holds through every step once every move keeps it. -/

namespace Sys2Proof.Machine

/-! ### Moves -/

/-- An arriving set whose samples are in range (R12). -/
def CheckedSet.InRange (c : CheckedSet) : Prop := Machine.InRange c.left.value ∧ Machine.InRange c.right.value

/-- What a move can make of one lane whose descriptor stands. -/
inductive LaneMove : Lane → Lane → Prop
  | append (x : Lane) (c : CheckedSet) (onStream : x.activeStream.isSome) (room : x.fifo.length < 2048)
      (range : c.InRange) : LaneMove x (x.append c)
  | overrun (x : Lane) (n : Nat) : LaneMove x { x with overrunTally := n }
  | failover (x : Lane) (primary : x.primary.isSome) (backup : x.backup.isSome) : LaneMove x (x.emptied .backup .priming)
  | toPrimary (x : Lane) (primary : x.primary.isSome) : LaneMove x (x.emptied .primary .priming)
  | flush (x : Lane) (notIdle : x.state ≠ .idle) : LaneMove x (x.emptied x.active .priming)
  | popped (x : Lane) (k : Nat) : LaneMove x (x.popTimes k).1
  | corrected (x : Lane) : LaneMove x x.corrected

/-- A lane with an accepted descriptor stored: emptied where a source or the drain changes (R75, R76). -/
def Lane.described (x : Lane) (d : LaneDescriptor) : Lane :=
  if x.moves d then (x.withDescriptor d).emptied .primary (if d.primary.isSome then .priming else .idle)
  else x.withDescriptor d

/-- What R3 says of a port alone: with L measured it is synchronised and has seen two frame markers. -/
def Port.Law (x : Port) : Prop := x.measuredL ≠ none → x.sync ≠ .unsynced ∧ x.framesSeen = 2

/-- What section 2.2, R33 and R35 say of a path record `x` of feed `p` against the port, the raster and the output. -/
def State.PathLaw (p : Feed) (x : Path) (s : State) : Prop :=
  (x.timing ≠ .lost → s.ports[p].measuredL ≠ none) ∧
  (s.rasters[p] ≠ none → x.inForce = .normal ∧ x.timing ≠ .follow) ∧
  (x.inForce = .bypass → x.timing ≠ .follow → s.outputs[p] = .dark)

/-- One write of the block, with what its writer has checked. `free` is a write of items that no law speaks of. -/
inductive Move : State → State → Prop
  | free (s u : State) (time : s.now ≤ u.now) (sweep : s.sweepReached = false → u.sweepReached = false) :
      Move s { s with
        now := u.now, freeCount := u.freeCount, rules := u.rules, sweepCounter := u.sweepCounter
        sweepReached := u.sweepReached, regulators := u.regulators, written := u.written, tick := u.tick
        probe := u.probe, settings := u.settings, beaconPending := u.beaconPending, notices := u.notices }
  | lane (s : State) (l : LaneId) (x : Lane) (moves : LaneMove s.lanes[l] x) : Move s (s.setLane l x)
  | descriptor (s : State) (l : LaneId) (d : LaneDescriptor) (free : s.laneInUse l d.drain = false)
      (backup : d.backup.isSome → d.primary.isSome) (target : 16 ≤ d.target ∧ d.target ≤ 1984) :
      Move s (s.setLane l (s.lanes[l].described d))
  | entry (s : State) (i : Fin 48) (e : Option StreamEntry)
      (same : e.map StreamEntry.source = s.streams[i].map StreamEntry.source) : Move s (s.setStream i e)
  | learn (s : State) (i : Fin 48) (e : StreamEntry) (free : s.streams[i] = none) (new : s.findStream e.source = none) :
      Move s { s.setStream i (some e) with tableCount := s.tableCount + 1 }
  | replace (s : State) (i : Fin 48) (e : StreamEntry) (taken : s.streams[i] ≠ none)
      (new : s.findStream e.source = none) : Move s (s.setStream i (some e))
  | remove (s : State) (pick : StreamEntry → Bool) : Move s (s.freeWhere pick)
  | age (s : State) (f : StreamEntry → StreamEntry) (same : ∀ e, (f e).source = e.source) :
      Move s { s with streams := s.streams.map fun e => e.map f }
  | route (s : State) (p : Feed) (r : Route)
      (names : ∀ l, r.names l = true → s.routes[p].names l = true ∨ s.lanes[l].drain = p) : Move s (s.setRoute p r)
  | frameStart (s : State) (p : Feed) (quiet lines : Nat) :
      Move s (s.setCarriage p (s.carriage[p].frameStart s.paths[p].fn s.paths[p].fd quiet lines))
  | request (s : State) (p : Feed) (k : Nat) : Move s (s.setCarriage p (s.carriage[p].requested k))
  | rate (s : State) (p : Feed) (x : PathSettings) (c : Carriage)
      (fn : 12000 ≤ x.fn ∧ x.fn ≤ 120000) (fd : x.fd = 1000 ∨ x.fd = 1001) (cadence : cadenceLength x.fn x.fd ≤ 16)
      (begins : (x.fn = s.paths[p].fn ∧ x.fd = s.paths[p].fd ∧ c = s.carriage[p]) ∨ c = s.carriage[p].rateChange) :
      Move s ((s.setPath p (s.paths[p].withSettings x)).setCarriage p c)
  | port (s : State) (p : Feed) (x : Port) (law : s.ports[p].Law → x.Law)
      (measured : s.paths[p].timing ≠ .lost → s.ports[p].measuredL ≠ none → x.measuredL ≠ none) : Move s (s.setPort p x)
  | path (s : State) (p : Feed) (x : Path) (fn : x.fn = s.paths[p].fn) (fd : x.fd = s.paths[p].fd)
      (law : s.PathLaw p s.paths[p] → s.PathLaw p x) : Move s (s.setPath p x)
  | raster (s : State) (p : Feed) (g : Option GenFrame)
      (law : g ≠ none → s.rasters[p] ≠ none ∨ (s.paths[p].inForce = .normal ∧ s.paths[p].timing ≠ .follow)) :
      Move s (s.setRaster p g)
  | output (s : State) (p : Feed) (o : Output)
      (law : o ≠ .dark → s.outputs[p] ≠ .dark ∨ s.rasters[p] ≠ none ∨ s.paths[p].inForce = .normal ∨
        s.paths[p].timing = .follow) : Move s (s.setOutput p o)
  | command (s : State) (c : Command) (room : s.commandQueue.length < 4) :
      Move s { s with commandQueue := s.commandQueue ++ [c] }
  | dequeue (s : State) (c : Command) (rest : List Command) (head : s.commandQueue = c :: rest) :
      Move s { s with commandQueue := rest }
  | reply (s : State) (r : Reply) (room : s.replyQueue.length < 8) : Move s { s with replyQueue := s.replyQueue ++ [r] }
  | placed (s : State) (r : Reply) (rest : List Reply) (head : s.replyQueue = r :: rest) :
      Move s { s with replyQueue := rest }
  | reset (s : State) : Move s s.resetBlocks

/-- A run of moves. -/
abbrev Moves : State → State → Prop := Relation.ReflTransGen Move

theorem Move.moves {s t : State} (h : Move s t) : Moves s t := .single h

/-- Operations done for every member of a list are a run of moves when each is. -/
theorem forList_moves {α : Type} {f : α → State → State} {l : List α} (s : State)
    (h : ∀ x ∈ l, ∀ t, Moves t (f x t)) : Moves s (forList f l s) :=
  forList_keeps (Moves s) f l s .refl fun x hx t ht => ht.trans (h x hx t)

theorem forEach_moves {n : Nat} {f : Fin n → State → State} (s : State) (h : ∀ i t, Moves t (f i t)) :
    Moves s (forEach f s) := forList_moves s fun i _ => h i

/-! ### Writes of items that no law speaks of -/

/-- A change of free items, given by what it leaves alone. -/
theorem Moves.free {s t : State} (frame : t = { s with
      now := t.now, freeCount := t.freeCount, rules := t.rules, sweepCounter := t.sweepCounter
      sweepReached := t.sweepReached, regulators := t.regulators, written := t.written, tick := t.tick
      probe := t.probe, settings := t.settings, beaconPending := t.beaconPending, notices := t.notices })
    (time : s.now ≤ t.now) (sweep : s.sweepReached = false → t.sweepReached = false) : Moves s t := by
  rw [frame]
  exact (Move.free s t time sweep).moves

theorem Moves.of_veilProbe {s t : State} (h : ∀ d, t.veilProbe d = s.veilProbe d) : Moves s t := by
  rw [State.eq_of_veilProbe h]
  exact .free rfl le_rfl id

theorem Moves.of_veilRules {s t : State} (h : ∀ d, t.veilRules d = s.veilRules d) : Moves s t := by
  rw [State.eq_of_veilRules h]
  exact .free rfl le_rfl id

theorem Moves.written (v : Vector (List FeedWord) 8) (s : State) : Moves s { s with written := v } :=
  .free rfl le_rfl id

section

variable (s : State)

theorem State.elapse_moves (dt : Nat) : Moves s (s.elapse dt) := .free rfl (Nat.le_add_right _ _) id

theorem State.raise_moves (n : Notice) : Moves s (s.raise n) := .free rfl le_rfl id

theorem State.setTick_moves (x : TickGen) : Moves s (s.setTick x) := .free rfl le_rfl id

theorem State.probeLeft_moves (l : LaneId) : Moves s (s.probeLeft l) := .of_veilProbe fun d => State.probeLeft_veil d l s

theorem State.endLine_moves (p : Feed) : Moves s (s.endLine p) := by
  rw [State.endLine_frame]
  exact .written _ s

theorem State.cutLine_moves (p : Feed) : Moves s (s.cutLine p) := by
  rw [State.cutLine_frame]
  exact .written _ s

theorem State.cutLines_moves : Moves s s.cutLines := forEach_moves s fun p t => t.cutLine_moves p

theorem State.endAtMarker_moves (p : Feed) : Moves s (s.endAtMarker p) := by
  rw [State.endAtMarker_frame]
  exact .written _ s

theorem State.endAtTick_moves (p : Feed) : Moves s (s.endAtTick p) := by
  rw [State.endAtTick_frame]
  exact .written _ s

/-! ### Lane store -/

variable {s}

theorem State.emptyLane_moves {l : LaneId} {a : Active} {x : LaneState}
    (h : LaneMove s.lanes[l] (s.lanes[l].emptied a x)) : Moves s (s.emptyLane l a x) :=
  (Move.lane s l _ h).moves.trans (State.probeLeft_moves _ l)

variable (s)

theorem State.storeSet_moves (x : Source) (l : LaneId) {c : CheckedSet} (range : c.InRange) :
    Moves s (s.storeSet x l c) := by
  by_cases onStream : s.lanes[l].activeStream = some x
  · by_cases room : s.lanes[l].fifo.length < 2048
    · rw [State.storeSet_room c onStream room]
      exact (Move.lane s l _ (.append _ c (by rw [onStream]; rfl) room range)).moves
    · rw [State.storeSet_full c onStream (Nat.le_of_not_lt room)]
      exact (Move.lane s l _ (.overrun _ _)).moves.trans (State.raise_moves _ _)
  · rw [State.storeSet_otherStream c onStream]

theorem State.storeAll_moves (x : Source) {cs : List CheckedSet} (range : ∀ c ∈ cs, c.InRange) :
    Moves s (s.storeAll x cs) :=
  forEach_moves s fun l t => forList_moves t fun c hc u => u.storeSet_moves x l (range c hc)

/-- A source with a valid stream is present. -/
theorem State.isSome_of_hasSource {x : Option Source} (h : s.hasSource x = true) : x.isSome = true := by
  cases x with
  | none => exact absurd h (by simp [State.hasSource])
  | some y => rfl

theorem State.failoverCheck_moves (l : LaneId) : Moves s (s.failoverCheck l) := by
  unfold State.failoverCheck
  split
  next h =>
    obtain ⟨-, present, -, backup⟩ := (s.failsOver_iff l).mp h
    exact (State.emptyLane_moves (.failover _ present (s.isSome_of_hasSource backup))).trans (State.raise_moves _ _)
  next => exact .refl

theorem State.returnCheck_moves (l : LaneId) : Moves s (s.returnCheck l) := by
  unfold State.returnCheck
  split
  next h =>
    obtain ⟨-, primary, -⟩ := (s.returns_iff l).mp h
    exact State.emptyLane_moves (.toPrimary _ (s.isSome_of_hasSource primary))
  next => exact .refl

theorem State.onRemoval_moves (x : Source) : Moves s (s.onRemoval x) := forEach_moves s fun l t => by
  split
  · exact t.failoverCheck_moves l
  · exact .refl

theorem State.onAddition_moves (x : Source) : Moves s (s.onAddition x) := forEach_moves s fun l t => by
  split
  · exact t.returnCheck_moves l
  · exact .refl

theorem State.onSweepDone_moves : Moves s s.onSweepDone := forEach_moves s fun l t =>
  (t.failoverCheck_moves l).trans (State.returnCheck_moves _ l)

theorem State.popFeed_moves (p : Feed) (k : Nat) : Moves s (s.popFeed p k) := forEach_moves s fun l t => by
  by_cases drains : t.lanes[l].drain = p
  · rw [State.popLane_frame drains]
    exact (Move.lane t l _ (.popped _ k)).moves.trans (Moves.free rfl le_rfl id)
  · rw [State.popLane_of_otherFeed drains]

/-! ### Stream table -/

theorem State.takeStream_moves (x : Source) (phase mends : Nat) : Moves s (s.takeStream x phase mends) := by
  unfold State.takeStream
  split
  next i known =>
    refine (Move.entry s i _ ?_).moves
    cases s.streams[i] <;> rfl
  next unknown =>
    split
    next i free =>
      have isFree : s.streams[i] = none := by simpa using List.find?_some free
      exact (Move.learn s i (learnedEntry x phase mends) isFree unknown).moves
    next =>
      split
      next i old =>
        have taken : s.streams[i] ≠ none := fun h => by simpa [h] using List.find?_some old
        exact (Move.replace s i (learnedEntry x phase mends) taken unknown).moves
      next => exact s.raise_moves _

theorem State.removeWhere_moves (pick : StreamEntry → Bool) : Moves s (s.removeWhere pick) :=
  (Move.remove s pick).moves.trans (forList_moves _ fun x _ t => t.onRemoval_moves x)

theorem StreamEntry.swept_source (e : StreamEntry) : e.swept.source = e.source := by
  unfold StreamEntry.swept
  split <;> rfl

/-- A sweep, whatever the counter and the call for it stood at. -/
theorem State.sweepTable_moves (counter : Nat) (reached : Bool) :
    Moves s { s with sweepCounter := counter, sweepReached := reached }.sweepTable :=
  calc Moves s (s.freeWhere StreamEntry.sweptAway) := (Move.remove s _).moves
    Moves _ _ := (Move.age _ StreamEntry.swept StreamEntry.swept_source).moves
    Moves _ { s with
        streams := (s.freeWhere StreamEntry.sweptAway).streams.map fun e => e.map StreamEntry.swept
        tableCount := (s.freeWhere StreamEntry.sweptAway).tableCount, sweepCounter := 0, sweepReached := false } :=
      .free rfl le_rfl fun _ => rfl
    Moves _ _ := forList_moves _ fun x _ t => t.onRemoval_moves x
    Moves _ _ := State.onSweepDone_moves _

theorem State.settleSweep_moves : Moves s s.settleSweep := by
  unfold State.settleSweep
  split
  · exact s.sweepTable_moves s.sweepCounter s.sweepReached
  · exact .refl

theorem State.tickTable_moves : Moves s s.tickTable := by
  unfold State.tickTable State.settleSweep
  split
  next => exact s.sweepTable_moves _ _
  next stands => exact .free rfl le_rfl fun _ => by simpa using stands

theorem State.storeLearned_moves (x : Source) (gone : Option Source) {cs : List CheckedSet}
    (range : ∀ c ∈ cs, c.InRange) : Moves s (s.storeLearned x gone cs) := by
  have first : ∀ n t, Moves t (State.storeAll x (cs.take n) t) := fun n t =>
    t.storeAll_moves x fun c hc => range c (List.mem_of_mem_take hc)
  have middle : ∀ n m t, Moves t (State.storeAll x ((cs.take n).drop m) t) := fun n m t =>
    t.storeAll_moves x fun c hc => range c (List.mem_of_mem_take (List.mem_of_mem_drop hc))
  have last : ∀ n t, Moves t (State.storeAll x (cs.drop n) t) := fun n t =>
    t.storeAll_moves x fun c hc => range c (List.mem_of_mem_drop hc)
  have drawn : Moves s { s with freeCount := s.freeCount + 1 } := .free rfl le_rfl id
  unfold State.storeLearned
  cases gone with
  | none => exact drawn.trans ((first _ _).trans ((middle _ _ _).trans ((State.onAddition_moves _ x).trans (last _ _))))
  | some y =>
    exact drawn.trans ((first _ _).trans ((State.onRemoval_moves _ y).trans
      ((middle _ _ _).trans ((State.onAddition_moves _ x).trans (last _ _)))))

theorem State.takePacket_moves (x : Source) {c : CarriagePayload} (range : ∀ y ∈ c.sets, y.InRange) :
    Moves s (s.takePacket x c) := by
  unfold State.takePacket
  dsimp only
  split
  · exact (s.takeStream_moves _ _ _).trans (State.storeLearned_moves _ _ _ range)
  · exact (s.takeStream_moves _ _ _).trans (State.storeAll_moves _ _ range)

/-! ### Feed frame starts -/

theorem State.carriageFrameStart_moves (p : Feed) (lines : Nat) : Moves s (s.carriageFrameStart p lines) := by
  rw [State.carriageFrameStart_frame]
  exact (Move.frameStart s p s.paths[p].quiet lines).moves.trans (Moves.free rfl le_rfl id)

theorem State.regulate_moves (p : Feed) : Moves s (s.regulate p) := forEach_moves s fun l t => by
  by_cases drains : t.lanes[l].drain = p
  · rw [State.regulateLane_of_feed drains]
    have counted : Moves t (t.setRegulator l (t.regulators[l].captured t.lanes[l])) := .free rfl le_rfl id
    exact counted.trans (Move.lane _ l _ (.corrected _)).moves
  · rw [State.regulateLane_of_otherFeed drains]

/-! ### Route maps -/

/-- The lanes that a route names, entry by entry. -/
theorem Route.names_iff (r : Route) (l : LaneId) :
    r.names l = true ↔ ∃ x : Slot, r.live[x].names l = true ∨ r.shadow[x].names l = true := by
  have any : ∀ v : Vector SlotEntry 8, (v.toList.any fun e => e.names l) = true ↔ ∃ x : Slot, v[x].names l = true := by
    intro v
    simp only [List.any_eq_true, Vector.mem_toList_iff, Vector.mem_iff_getElem]
    exact ⟨fun ⟨_, ⟨i, hi, h⟩, hn⟩ => ⟨⟨i, hi⟩, by simpa [h] using hn⟩, fun ⟨x, hn⟩ => ⟨_, ⟨x.val, x.isLt, rfl⟩, hn⟩⟩
  rw [Route.names, Bool.or_eq_true, any, any, ← exists_or]

/-- A route whose entries are among those of the record before it. -/
theorem Moves.route {s : State} {p : Feed} {r : Route}
    (live : ∀ x : Slot, ∀ l, r.live[x].names l = true → s.routes[p].names l = true)
    (shadow : ∀ x : Slot, ∀ l, r.shadow[x].names l = true → s.routes[p].names l = true) : Moves s (s.setRoute p r) :=
  (Move.route s p r fun l h => .inl <| by
    obtain ⟨x, h⟩ := (r.names_iff l).mp h
    exact h.elim (live x l) (shadow x l)).moves

theorem Route.names_of_live {r : Route} {x : Slot} {l : LaneId} (h : r.live[x].names l = true) : r.names l = true :=
  (r.names_iff l).mpr ⟨x, .inl h⟩

theorem Route.names_of_shadow {r : Route} {x : Slot} {l : LaneId} (h : r.shadow[x].names l = true) :
    r.names l = true := (r.names_iff l).mpr ⟨x, .inr h⟩

/-- A change of a route record that leaves both maps alone. -/
theorem Moves.route_of_maps {s : State} {p : Feed} {r : Route} (live : r.live = s.routes[p].live)
    (shadow : r.shadow = s.routes[p].shadow) : Moves s (s.setRoute p r) :=
  .route (fun x l h => Route.names_of_live (x := x) (by rw [← live]; exact h))
    fun x l h => Route.names_of_shadow (x := x) (by rw [← shadow]; exact h)

theorem State.routeFrameStart_moves (p : Feed) : Moves s (s.routeFrameStart p) := by
  unfold State.routeFrameStart
  dsimp only
  split
  · exact .route (fun x l h => Route.names_of_shadow (x := x) h) fun x l h => Route.names_of_shadow (x := x) h
  · exact .route_of_maps rfl rfl

theorem State.feedFrameStart_moves (p : Feed) (lines : Nat) : Moves s (s.feedFrameStart p lines) :=
  calc Moves s (s.carriageFrameStart p lines) := s.carriageFrameStart_moves p lines
    Moves _ _ := State.regulate_moves _ p
    Moves _ _ := State.routeFrameStart_moves _ p
    Moves _ _ := .of_veilProbe fun d => State.probeFrameStart_veil d p _

end

end Sys2Proof.Machine
end

section
/-! SUPPORT. The commands as runs of moves: what arrives at an input port, the path timing unit, the house tick, the control
channel and the line assembler. -/

namespace Sys2Proof.Machine

section

variable (s : State)

/-! ### Lines of an output -/

/-- A line that is changed is a line still, so no law of the output is asked. -/
theorem Moves.output_of_line {s : State} {p : Feed} {l : Line} (h : s.outputs[p] = .line l) (o : Output) :
    Moves s (s.setOutput p o) := (Move.output s p o fun _ => .inl (by rw [h]; exact Output.noConfusion)).moves

theorem State.updateCarried_moves (p : Feed) (f : Line → Line) : Moves s (s.updateCarried p f) := by
  unfold State.updateCarried
  split
  next l h =>
    split
    · exact .refl
    · exact .output_of_line h _
  next => exact .refl

theorem State.updateLine_moves (p : Feed) (f : Line → Line) : Moves s (s.updateLine p f) := by
  unfold State.updateLine
  split
  next l h => exact .output_of_line h _
  next => exact .refl

theorem State.place_moves (p : Feed) (k : Packet) : Moves s (s.place p k) := s.updateLine_moves p _

/-- A feed whose lines are carried from the input, or that has NORMAL in force, may begin a line. -/
theorem Moves.beginLine {s : State} {p : Feed} (l : Line)
    (h : s.rasters[p] ≠ none ∨ s.paths[p].inForce = .normal ∨ s.paths[p].timing = .follow) :
    Moves s (s.setOutput p (.line l)) := (Move.output s p _ fun _ => .inr h).moves

/-! ### Loss of feed (R23 to R25) -/

/-- A change of a path record that leaves its mode, its timing state and its rate alone. -/
theorem Moves.path_of_same {s : State} {p : Feed} {x : Path} (fn : x.fn = s.paths[p].fn) (fd : x.fd = s.paths[p].fd)
    (inForce : x.inForce = s.paths[p].inForce) (timing : x.timing = s.paths[p].timing) : Moves s (s.setPath p x) :=
  (Move.path s p x fn fd fun law => by rw [State.PathLaw, inForce, timing]; exact law).moves

theorem State.restartLoss_moves (p : Feed) : Moves s (s.restartLoss p) := .path_of_same rfl rfl rfl rfl

theorem State.portUnsynced_moves {s : State} {p : Feed} (lost : s.paths[p].timing = .lost) :
    Moves s (s.portUnsynced p) :=
  (Move.port s p _ (fun _ h => absurd rfl h) fun h => absurd lost h).moves

theorem Route.names_flagsCleared (r : Route) (l : LaneId) : r.flagsCleared.names l = r.names l := rfl

theorem State.outputAtLoss_moves (p : Feed) : Moves s (s.outputAtLoss p) := by
  unfold State.outputAtLoss
  split
  next => exact (s.cutLine_moves p).trans (Move.output _ p .dark fun h => absurd rfl h).moves
  next =>
    split
    next l h => exact .output_of_line h _
    next => exact .refl
  next => exact .refl

/-- The output at an entry into LOST: the other records stand, and with BYPASS in force it is dark (R33). -/
theorem State.outputAtLoss_frame (p : Feed) : s.outputAtLoss p = { s with
    outputs := (s.outputAtLoss p).outputs, written := (s.outputAtLoss p).written } := by
  unfold State.outputAtLoss
  split
  next =>
    rw [State.cutLine_frame]
    rfl
  next => split <;> rfl
  next => rfl

theorem State.outputAtLoss_bypass {s : State} {p : Feed} (h : s.paths[p].inForce = .bypass) :
    (s.outputAtLoss p).outputs[p] = .dark := by
  unfold State.outputAtLoss
  rw [h]
  exact State.setOutput_same _ _ _

/-- A path that enters LOST: with NORMAL in force it has no raster in FOLLOW, and with BYPASS its output is dark. -/
theorem State.enterLost_moves (p : Feed) : Moves s (s.enterLost p) := by
  have lost : ∀ x : Path, x = { (s.outputAtLoss p).paths[p] with timing := .lost, resumePending := false } →
      Moves s ((s.outputAtLoss p).setPath p x) := by
    rintro x rfl
    refine (s.outputAtLoss_moves p).trans (Move.path _ p _ (by rfl) (by rfl) ?_).moves
    rintro ⟨-, raster, -⟩
    refine ⟨fun h => absurd rfl h, fun h => ⟨(raster h).1, Timing.noConfusion⟩, fun bypass _ => ?_⟩
    rw [State.outputAtLoss_frame] at bypass
    exact State.outputAtLoss_bypass bypass
  unfold State.enterLost
  refine (lost _ rfl).trans (.trans (b := State.portUnsynced p _) (State.portUnsynced_moves ?_) ?_)
  · rw [State.setPath_same]
  · exact .trans (Moves.route_of_maps (by rfl) (by rfl)) ((State.removeWhere_moves _ _).trans (State.raise_moves _ _))

theorem State.lossExpired_moves (p : Feed) : Moves s (s.lossExpired p) := by
  have stopped : Moves s (s.setPath p { s.paths[p] with lossTimer := none }) := .path_of_same rfl rfl rfl rfl
  unfold State.lossExpired
  dsimp only
  split
  next h => exact stopped.trans (State.portUnsynced_moves h)
  next => exact stopped.trans (State.enterLost_moves _ p)
  next => exact stopped.trans (State.enterLost_moves _ p)

/-! ### Markers (R2, R3, R26, R27) -/

/-- An input frame marker that begins a frame of a path whose port has measured L. -/
theorem State.inputFrameStart_moves (p : Feed) (lines : Nat) (measured : s.ports[p].measuredL ≠ none) :
    Moves s (s.inputFrameStart p lines) := by
  -- The raster goes first: with none, the path may take the mode requested and enter FOLLOW.
  have ports : (s.endAtMarker p).ports = s.ports := by rw [State.endAtMarker_frame]
  have paths : (s.endAtMarker p).paths = s.paths := by rw [State.endAtMarker_frame]
  have commutes : ((((s.endAtMarker p).takeMode p).setPath p
      { ((s.endAtMarker p).takeMode p).paths[p] with timing := .follow, resumePending := false }).setRaster p none) =
      ((s.endAtMarker p).setRaster p none).setPath p
        { s.paths[p] with inForce := s.paths[p].requested, timing := .follow, resumePending := false } := by
    unfold State.takeMode
    rw [State.setPath_same, paths]
    simp [State.setPath, State.setRaster]
  have whole : s.inputFrameStart p lines = State.feedFrameStart p lines (State.beginCarriedLine p 0 true _) :=
    congrArg (fun t => State.feedFrameStart p lines (State.beginCarriedLine p 0 true t)) commutes
  rw [whole]
  refine .trans ?_ (State.feedFrameStart_moves _ p lines)
  refine .trans (.trans ((s.endAtMarker_moves p).trans (Move.raster _ p none fun h => absurd rfl h).moves)
    (Move.path _ p _ ?_ ?_ ?_).moves) (Moves.beginLine _ (.inr (.inr ?_)))
  · rw [State.setRaster_paths, paths]
  · rw [State.setRaster_paths, paths]
  · intro _
    refine ⟨fun _ => ?_, fun h => absurd (State.setRaster_same _ _ _) h, fun _ h => absurd rfl h⟩
    rw [State.setRaster_ports, ports]
    exact measured
  · rw [State.setPath_same]

theorem State.deliverFrameMarker_moves (p : Feed) {measured : Option Nat} (h : measured = s.ports[p].measuredL) :
    Moves s (s.deliverFrameMarker p measured) := by
  unfold State.deliverFrameMarker
  split
  next => exact .refl
  next lines =>
    have seen : s.ports[p].measuredL ≠ none := by rw [← h]; exact Option.some_ne_none _
    split
    next lost =>
      refine .trans (Move.path s p _ (by rfl) (by rfl) ?_).moves (State.raise_moves _ _)
      rintro ⟨-, raster, output⟩
      exact ⟨fun _ => seen, fun h => ⟨(raster h).1, Timing.noConfusion⟩,
        fun bypass _ => output bypass (by rw [lost]; exact Timing.noConfusion)⟩
    next =>
      split
      · exact s.inputFrameStart_moves p lines seen
      · exact .refl
    next => exact s.inputFrameStart_moves p lines seen

theorem Port.frameMarked_law {x : Port} (h : x.Law) : x.frameMarked.Law := by
  unfold Port.frameMarked
  intro measured
  refine ⟨Sync.noConfusion, ?_⟩
  dsimp only at measured ⊢
  split at measured
  next unseen => exact absurd ((h measured).2.symm.trans unseen) (by decide)
  next => omega

theorem Port.frameMarked_measured {x : Port} (h : x.measuredL ≠ none) : x.frameMarked.measuredL ≠ none := by
  unfold Port.frameMarked
  dsimp only
  split
  · exact h
  · exact Option.some_ne_none _

theorem State.frameMarkerArrives_moves (p : Feed) : Moves s (s.frameMarkerArrives p) := by
  unfold State.frameMarkerArrives
  dsimp only
  have marked : Moves s (((s.restartLoss p).setPort p (s.restartLoss p).ports[p].frameMarked)) :=
    (s.restartLoss_moves p).trans
      (Move.port _ p _ Port.frameMarked_law fun _ => Port.frameMarked_measured).moves
  have compared : ∀ t : State, ∀ a b, Moves t (t.compareRaster p a b) ∧ (t.compareRaster p a b).ports = t.ports := by
    intro t a b
    unfold State.compareRaster
    split
    · split
      · exact ⟨.refl, rfl⟩
      · exact ⟨t.raise_moves _, rfl⟩
    · exact ⟨.refl, rfl⟩
  refine marked.trans ((compared _ _ _).1.trans (State.deliverFrameMarker_moves _ p ?_))
  rw [(compared _ _ _).2, State.setPort_same]

theorem Port.lineMarked_law {x : Port} (h : x.Law) : x.lineMarked.Law :=
  fun measured => ⟨Sync.noConfusion, (h measured).2⟩

theorem State.lineMarkerArrives_moves (p : Feed) : Moves s (s.lineMarkerArrives p) := by
  unfold State.lineMarkerArrives
  dsimp only
  have marked : Moves s ((s.restartLoss p).setPort p (s.restartLoss p).ports[p].lineMarked) :=
    (s.restartLoss_moves p).trans
      (Move.port _ p _ Port.lineMarked_law fun _ h => h).moves
  split
  next follow =>
    refine marked.trans ((State.endLine_moves _ p).trans (Moves.beginLine _ (.inr (.inr ?_))))
    rw [State.endLine_frame]
    exact follow
  next => exact marked

/-- A change of a port that leaves what it has measured alone; it stays synchronised. -/
theorem Moves.port_of_same {s : State} {p : Feed} {x : Port} (measured : x.measuredL = s.ports[p].measuredL)
    (seen : x.framesSeen = s.ports[p].framesSeen) (sync : s.ports[p].sync ≠ .unsynced → x.sync ≠ .unsynced) :
    Moves s (s.setPort p x) :=
  (Move.port s p x (fun law h => ⟨sync (law (by rwa [← measured])).1, seen.trans (law (by rwa [← measured])).2⟩)
    fun _ h => by rwa [measured]).moves

theorem State.pictureMarkArrives_moves (p : Feed) : Moves s (s.pictureMarkArrives p) :=
  .trans (Moves.port_of_same (by rfl) (by rfl) fun _ => Sync.noConfusion) (State.updateCarried_moves _ p _)

/-! ### House ticks (R39) -/

theorem State.tickPath_moves (p : Feed) : Moves s (s.tickPath p) := by
  unfold State.tickPath
  split
  next => exact .refl
  next notFollow =>
    have timing : s.paths[p].timing ≠ .follow := notFollow
    dsimp only
    split
    next normal =>
      have normal : s.paths[p].requested = .normal := by simpa [State.takeMode] using normal
      have taken : Moves s (s.takeMode p) := by
        refine (Move.path s p _ (by rfl) (by rfl) ?_).moves
        rintro ⟨seen, -, -⟩
        exact ⟨seen, fun _ => ⟨normal, timing⟩, fun bypass => absurd (normal.symm.trans bypass) Mode.noConfusion⟩
      have paths : ((s.takeMode p).endAtTick p).paths[p] = { s.paths[p] with inForce := s.paths[p].requested } := by
        rw [State.endAtTick_frame]
        exact State.setPath_same _ _ _
      refine taken.trans (((State.endAtTick_moves _ p).trans ?_).trans (State.feedFrameStart_moves _ p _))
      refine .trans (Move.raster _ p _ fun _ => .inr ?_).moves (Moves.beginLine _ (.inr (.inl ?_)))
      · rw [paths]
        exact ⟨normal, timing⟩
      · rw [State.setRaster_paths, paths]
        exact normal
    next bypass =>
      -- The raster and the output go first: without them, BYPASS may come into force.
      have commutes : (((s.takeMode p).setRaster p none).cutLine p).setOutput p .dark =
          (({ s with written := (((s.takeMode p).setRaster p none).cutLine p).written }.setRaster p none).setOutput p
            .dark).takeMode p :=
        congrArg (State.setOutput p .dark) (State.cutLine_frame p _)
      rw [commutes]
      refine .trans (Moves.written _ s) (.trans (.trans (Move.raster _ p none fun h => absurd rfl h).moves
        (Move.output _ p .dark fun h => absurd rfl h).moves) (Move.path _ p _ (by rfl) (by rfl) ?_).moves)
      rintro ⟨seen, -, -⟩
      exact ⟨seen, fun h => absurd (State.setRaster_same _ _ _) h, fun _ _ => State.setOutput_same _ _ _⟩

theorem TickConsumer.act_moves (c : TickConsumer) : Moves s (c.act s) := by
  cases c with
  | table => exact s.tickTable_moves
  | probe => exact .of_veilProbe fun d => State.probeTick_veil d s
  | path p => exact s.tickPath_moves p

theorem Moves.beaconCounted (b : Bool) (n : Nat) : Moves s { s with beaconPending := b, freeCount := n } :=
  .free rfl le_rfl id

/-- The state in which a house tick reaches the consumers whose order may show (R39, R51, R159). -/
def State.tickCounted : State :=
  { (s.setTick { s.tick with count := (s.tick.count + 1) % 256 }).tickWatches with
    beaconPending := s.beaconPending || s.settings.beaconEnabled
    freeCount := s.freeCount + 1 }

theorem State.houseTick_eq : s.houseTick = forList TickConsumer.act s.tickOrder s.tickCounted := rfl

theorem State.tickCounted_moves : Moves s s.tickCounted :=
  calc Moves s (s.setTick { s.tick with count := (s.tick.count + 1) % 256 }) := s.setTick_moves _
    Moves _ (State.tickWatches _) := .of_veilRules fun d => State.tickWatches_veil d _
    Moves _ _ := .beaconCounted _ _ _

theorem State.houseTick_moves : Moves s s.houseTick := by
  rw [State.houseTick_eq]
  exact s.tickCounted_moves.trans (forList_moves _ fun c _ t => c.act_moves t)

theorem State.pulse_moves : Moves s s.pulse := by
  unfold State.pulse
  dsimp only
  split
  · exact (s.setTick_moves _).trans (State.houseTick_moves _)
  · exact (s.setTick_moves _).trans ((State.raise_moves _ _).trans (State.houseTick_moves _))

theorem State.absenceExpired_moves : Moves s s.absenceExpired :=
  (s.setTick_moves _).trans ((State.raise_moves _ _).trans (State.houseTick_moves _))

theorem State.freewheelExpired_moves : Moves s s.freewheelExpired :=
  (s.setTick_moves _).trans (State.houseTick_moves _)

theorem State.generatedLine_moves (p : Feed) : Moves s (s.generatedLine p) := by
  unfold State.generatedLine
  split
  next => exact .refl
  next g running =>
    split
    next =>
      refine .trans (.trans (Move.raster s p _ fun _ => .inl (by rw [running]; exact Option.some_ne_none _)).moves
        (State.endLine_moves _ p)) (Moves.beginLine _ (.inl ?_))
      rw [State.endLine_frame]
      show (s.setRaster p _).rasters[p] ≠ none
      rw [State.setRaster_same]
      exact Option.some_ne_none _
    next => exact .refl

end

end Sys2Proof.Machine
end

section
/-! SUPPORT. Every command as a run of moves: the classifier, the control channel, the line assembler and the words of a
feed; and what follows for a law that every move keeps. -/

namespace Sys2Proof.Machine

section

variable (s : State)

/-! ### Control channel -/

theorem State.armSwaps_moves (feeds : Nat) : Moves s (s.armSwaps feeds) := forEach_moves s fun p t => by
  split
  · exact .route_of_maps rfl rfl
  · exact .refl

/-- A descriptor that passes the first step of R74 has T in its range, and a backup only behind a primary. -/
theorem judgeLane_some {w : LaneWrite} {d : LaneDescriptor} (h : judgeLane w = some d) :
    (d.backup.isSome → d.primary.isSome) ∧ 16 ≤ d.target ∧ d.target ≤ 1984 := by
  simp only [judgeLane, Option.bind_eq_bind, Option.bind_eq_some_iff] at h
  obtain ⟨primary, -, backup, -, drain, -, il, -, ir, -, au, -, h⟩ := h
  split at h
  · cases h
  next alone =>
    cases h
    refine ⟨fun hb => ?_, by simp only [clampTo]; omega⟩
    cases hp : primary with
    | none => exact absurd ⟨hb, .inr hp⟩ alone
    | some _ => rfl

theorem judgePath_some {w : PathWrite} {x : PathSettings} (h : judgePath w = some x) :
    (12000 ≤ x.fn ∧ x.fn ≤ 120000) ∧ (x.fd = 1000 ∨ x.fd = 1001) ∧ cadenceLength x.fn x.fd ≤ 16 := by
  simp only [judgePath, Option.bind_eq_bind, Option.bind_eq_some_iff] at h
  obtain ⟨mode, -, h⟩ := h
  split at h
  next range =>
    obtain ⟨lower, upper, fd, cadence⟩ := range
    cases h
    exact ⟨⟨lower, upper⟩, fd, cadence⟩
  · cases h

/-- What a lane write stores, and what becomes of a window open on a lane that it empties (R75, R76, R146). -/
theorem State.storeDescriptor_eq (l : LaneId) (d : LaneDescriptor) :
    s.storeDescriptor l d = { s.setLane l (s.lanes[l].described d) with
      probe := if s.lanes[l].moves d then (s.probeLeft l).probe else s.probe } := by
  unfold State.storeDescriptor Lane.described State.emptyLane
  dsimp only
  split
  · rw [State.probeLeft_frame, State.setLane_same]
    have probe : ∀ t : State, t.probe = s.probe → (t.probeLeft l).probe = (s.probeLeft l).probe := fun t h => by
      unfold State.probeLeft
      rw [h]
      split
      · split
        · rfl
        · exact h
      · exact h
    rw [probe _ (by rfl)]
    simp [State.setLane]
  · rfl

theorem State.writeLane_moves (i : Nat) (w : LaneWrite) : Moves s (s.writeLane i w).state := by
  unfold State.writeLane
  split
  · exact .refl
  · split
    · exact .refl
    next d judged =>
      split
      · exact .refl
      next free =>
        obtain ⟨backup, target⟩ := judgeLane_some judged
        show Moves s (s.storeDescriptor _ d)
        rw [State.storeDescriptor_eq]
        exact (Move.descriptor s _ d (by simpa using free) backup target).moves.trans (Moves.free rfl le_rfl id)

/-- A lane reference that names a lane drained by feed `p` alone (R123, step 4). -/
theorem State.drain_of_not_elsewhere {s : State} {p : Feed} {x : Option LaneId} {l : LaneId}
    (h : s.drainedElsewhere p x = false) (hx : x = some l) : s.lanes[l].drain = p := by
  subst hx
  simpa [State.drainedElsewhere] using h

theorem State.writeRouteShadow_moves (i : Nat) (w : SlotWrite) : Moves s (s.writeRouteShadow i w).state := by
  unfold State.writeRouteShadow
  split
  · exact .refl
  next p x _ =>
    split
    · exact .refl
    next e _ =>
      dsimp only
      split
      · exact .refl
      · split
        · exact .refl
        next conflict =>
          rw [Bool.or_eq_true, not_or, Bool.not_eq_true, Bool.not_eq_true] at conflict
          obtain ⟨laneA, laneB⟩ := conflict
          refine (Move.route s p _ fun l named => ?_).moves
          obtain ⟨y, live | shadow⟩ := (Route.names_iff _ l).mp named
          · exact .inl (Route.names_of_live (x := y) live)
          · by_cases hy : y = x
            · subst hy
              rw [vector_set_same] at shadow
              simp only [SlotEntry.names, Bool.or_eq_true, beq_iff_eq] at shadow
              exact .inr (shadow.elim (State.drain_of_not_elsewhere laneA) (State.drain_of_not_elsewhere laneB))
            · rw [vector_set_other _ _ hy] at shadow
              exact .inl (Route.names_of_shadow (x := y) shadow)

theorem State.writePath_moves (i : Nat) (w : PathWrite) : Moves s (s.writePath i w).state := by
  unfold State.writePath
  split
  · exact .refl
  next p _ =>
    split
    · exact .refl
    next x judged =>
      obtain ⟨fn, fd, cadence⟩ := judgePath_some judged
      dsimp only [stored]
      split
      next same =>
        have stands : (s.setPath p (s.paths[p].withSettings x)).setCarriage p s.carriage[p] =
            s.setPath p (s.paths[p].withSettings x) := by
          simp [State.setCarriage, State.setPath]
        rw [← stands]
        exact (Move.rate s p x _ fn fd cadence (.inl ⟨same.1, same.2, rfl⟩)).moves
      next => exact (Move.rate s p x _ fn fd cadence (.inr rfl)).moves

/-- Every decoded command but a few writes free items alone, or empties or empties into a lane (R151). -/
theorem State.perform_moves (op : Op) : Moves s (s.perform op).state := by
  cases op with
  | readRule i => unfold State.perform State.readRule; dsimp only; split <;> exact .refl
  | readLane i => unfold State.perform State.readLane; dsimp only; split <;> exact .refl
  | readRouteShadow i => unfold State.perform State.readRouteShadow; dsimp only; split <;> exact .refl
  | readRouteLive i => unfold State.perform State.readRouteLive; dsimp only; split <;> exact .refl
  | readStream i => unfold State.perform State.readStream; dsimp only; split <;> exact .refl
  | readPath i => unfold State.perform State.readPath; dsimp only; split <;> exact .refl
  | readProbe i => unfold State.perform State.readProbe; dsimp only; split <;> exact .refl
  | readSettings i => unfold State.perform State.readSettings; dsimp only; split <;> exact .refl
  | readStatus cursor => unfold State.perform State.readStatus; dsimp only; split <;> exact .refl
  | writeRule i w =>
    unfold State.perform State.writeRule
    dsimp only
    split
    · exact .refl
    · split
      · exact .refl
      · exact .free rfl le_rfl id
  | writeLane i w => exact s.writeLane_moves i w
  | writeRouteShadow i w => exact s.writeRouteShadow_moves i w
  | writePath i w => exact s.writePath_moves i w
  | writeSettings i w =>
    unfold State.perform State.writeSettings
    dsimp only
    split
    · split
      · exact .refl
      · exact .free rfl le_rfl id
    · exact .refl
  | swapRoutes feeds =>
    unfold State.perform State.swapRoutes
    dsimp only
    split
    · exact s.armSwaps_moves feeds
    · exact .refl
  | copyLive feed =>
    unfold State.perform State.copyLive
    dsimp only
    split
    · exact .refl
    · split
      · exact .refl
      · exact .route (fun x l h => Route.names_of_live (x := x) h) fun x l h => Route.names_of_live (x := x) h
  | flushLane lane =>
    unfold State.perform State.flushLane
    dsimp only
    split
    · exact .refl
    · split
      · exact .refl
      next notIdle => exact State.emptyLane_moves (.flush _ notIdle)
  | returnPrimary lane =>
    unfold State.perform State.returnPrimary
    dsimp only
    split
    · exact .refl
    · split
      · exact .refl
      · split
        next valid => exact State.emptyLane_moves (.toPrimary _ (s.isSome_of_hasSource valid))
        next => exact .refl
  | resume feed =>
    unfold State.perform State.resumePath
    dsimp only
    split
    · exact .refl
    · split
      · exact .path_of_same (by rfl) (by rfl) (by rfl) (by rfl)
      · exact .refl
      · exact .refl
  | clearStreams => exact s.removeWhere_moves _
  | clearNotice kind subject generation =>
    unfold State.perform State.clearNotice
    dsimp only
    split
    · exact .refl
    · split
      · exact .refl
      · split
        · exact Moves.free rfl le_rfl id
        · split
          · exact .refl
          · split
            · exact .refl
            · exact Moves.free rfl le_rfl id
  | probeStart mode first last trigger =>
    unfold State.perform State.startProbe
    dsimp only
    split
    · exact .refl
    · exact .free rfl le_rfl id
  | probeStop => exact .free rfl le_rfl id
  | restart => exact s.cutLines_moves.trans (Move.reset _).moves

/-- The execution of a decoded command leaves the reply queue, or, by a RESTART, an empty one (R151, R161). -/
theorem State.judge_replyQueue (c : Command) :
    (s.judge c).state.replyQueue = s.replyQueue ∨ (s.judge c).state.replyQueue = [] := by
  unfold State.judge
  split
  · exact .inl rfl
  next op _ =>
    by_cases h : op = .restart
    · subst h
      exact .inr rfl
    · obtain ⟨-, replies, -⟩ := State.perform_keeps s op h
      exact .inl replies

theorem State.executeCommand_moves (c : Command) (room : s.replyQueue.length < 8) : Moves s (s.executeCommand c) := by
  have judged : Moves s (s.judge c).state := by
    unfold State.judge
    split
    · exact .refl
    · exact s.perform_moves _
  refine judged.trans (Move.reply _ _ ?_).moves
  rcases s.judge_replyQueue c with h | h <;> rw [h]
  · exact room
  · exact Nat.zero_lt_succ 7

theorem State.executeHead_moves : Moves s s.executeHead := by
  unfold State.executeHead
  split
  next => exact .refl
  next c rest head =>
    have left : Moves s { s with commandQueue := rest } := (Move.dequeue s c rest head).moves
    split
    · refine left.trans ?_
      unfold State.executeBroadcast
      split
      · exact .refl
      · exact State.armSwaps_moves _ _
    · split
      next room => exact left.trans (State.executeCommand_moves _ c room)
      next => exact .refl

theorem State.runQueue_moves : Moves s s.runQueue := by
  have turns : ∀ n, ∀ t : State, Moves t (t.executeHeads n) := by
    intro n
    induction n with
    | zero => exact fun t => .refl
    | succ n ih => exact fun t => t.executeHead_moves.trans (ih _)
  exact turns _ s

theorem State.submit_moves (c : Command) : Moves s (s.submit c) := by
  refine .trans (b := s.takeCommand c) ?_ (State.runQueue_moves _)
  unfold State.takeCommand
  split
  next room => exact (Move.command s c room).moves
  next => exact s.raise_moves _

/-! ### Packets (R42, R149) -/

theorem sampleOfCode_inRange {code : Nat} (h : code < 16777216) : InRange (sampleOfCode code) := by
  unfold sampleOfCode
  split <;> constructor <;> omega

theorem dataByte_lt (w : FeedWord) : dataByte w < 256 := Nat.mod_lt _ (by decide)

theorem readSample_inRange (a b c : FeedWord) : InRange (readSample a b c).value := by
  have ha := dataByte_lt a
  have hb := dataByte_lt b
  have hc := dataByte_lt c
  exact sampleOfCode_inRange (by omega)

/-- Every sample read from a payload is in range, whether or not its check passes (R12). -/
theorem readSets_inRange (ws : List FeedWord) : ∀ c ∈ readSets ws, c.InRange := by
  induction ws using readSets.induct with
  | case1 a b c d e f rest ih =>
    intro x hx
    rw [readSets, List.mem_cons] at hx
    rcases hx with rfl | hx
    · exact ⟨readSample_inRange a b c, readSample_inRange d e f⟩
    · exact ih x hx
  | case2 ws short =>
    intro x hx
    rw [readSets] at hx
    · cases hx
    · exact short

theorem readCarriage_inRange {payload : List FeedWord} {c : CarriagePayload} (h : readCarriage payload = some c) :
    ∀ x ∈ c.sets, x.InRange := by
  cases payload with
  | nil => cases h
  | cons head rest =>
    cases h
    exact readSets_inRange rest

theorem State.noteSeen_moves (p : Feed) (k : Packet) (d : Decision) : Moves s (s.noteSeen p k d) := by
  unfold State.noteSeen
  split
  · exact .refl
  · split
    · exact .route_of_maps rfl rfl
    · exact .refl

theorem State.actOnDecision_moves (p : Feed) (k : Packet) (d : Decision) : Moves s (s.actOnDecision p k d) := by
  have reached : Moves s (match d.action with
      | none => s
      | some e => s.reachWatch p e) := by
    split
    · exact .refl
    · exact .of_veilRules fun v => State.reachWatch_veil v p _ s
  have handed := reached.trans ((State.noteSeen_moves _ p k d).trans
    (State.updateCarried_moves _ p fun l =>
      { l with packets := l.packets ++ [{ packet := k, origin := .decided d.strip k.good }] }))
  unfold State.actOnDecision
  dsimp only
  split
  · split
    · exact handed
    next c read => exact handed.trans (State.takePacket_moves _ _ (readCarriage_inRange read))
  · exact handed

theorem State.packetArrives_moves (p : Feed) (k : Packet) : Moves s (s.packetArrives p k) := by
  unfold State.packetArrives
  split
  · refine .trans (b := if s.leftOnFeed (Command.ofPayload k.payload k.good) then
      s.handToLine p { packet := k, origin := .leftCommand } else s) ?_ (State.submit_moves _ _)
    split
    · exact s.updateCarried_moves p _
    · exact .refl
  · exact s.actOnDecision_moves p k _

/-! ### Words of a feed (R1, R2) -/

theorem State.plainWord_moves (p : Feed) (w : FeedWord) : Moves s (s.plainWord p w) := by
  unfold State.plainWord
  split
  next => exact .refl
  next =>
    have read : ∀ t : State, ∀ r, Moves t (t.setPort p { t.ports[p] with reader := r }) := fun t r =>
      .port_of_same (by rfl) (by rfl) id
    unfold State.blankingWord
    dsimp only
    split
    · exact (s.updateCarried_moves p _).trans (read _ _)
    · exact (s.updateCarried_moves p _).trans ((read _ _).trans (State.packetArrives_moves _ p _))
  next => exact s.updateCarried_moves p _

theorem State.hold_moves (p : Feed) (h : Held) : Moves s (s.hold p h) := .port_of_same (by rfl) (by rfl) id

theorem State.markArrives_moves (p : Feed) (m : Mark) : Moves s (s.markArrives p m) := by
  unfold State.markArrives
  split
  · exact s.lineMarkerArrives_moves p
  · exact s.frameMarkerArrives_moves p
  · split
    · exact s.pictureMarkArrives_moves p
    · exact forList_moves s fun w _ t => t.plainWord_moves p w

theorem State.wordArrives_moves (p : Feed) (w : FeedWord) : Moves s (s.wordArrives p w) := by
  have plain := (s.hold_moves p .nothing).trans
    (forList_moves (f := State.plainWord p) (l := (recognise s.ports[p].held w).plain) (s.hold p .nothing)
      fun v _ t => t.plainWord_moves p v)
  unfold State.wordArrives
  dsimp only
  split
  · exact plain.trans (State.hold_moves _ p _)
  · exact plain.trans (State.markArrives_moves _ p _)

theorem State.arrive_moves (a : Arrival) (ws : List FeedWord) : Moves s (s.arrive a ws) :=
  forList_moves s fun w _ t => t.wordArrives_moves a.port w

/-! ### Output lines (R131) -/

theorem State.placePassed_moves (p : Feed) (x : LinePacket) : Moves s (s.placePassed p x) := by
  have disarmed : ∀ (r : Route) (x y : Slot) (l : LaneId), (r.disarm x).live[y].names l = true →
      r.names l = true := by
    intro r x y l h
    by_cases hy : y = x
    · subst hy
      rw [Route.disarm, vector_set_same] at h
      exact Route.names_of_live (x := y) h
    · rw [Route.disarm, vector_set_other _ _ hy] at h
      exact Route.names_of_live (x := y) h
  have carriage : ∀ x k, Moves s (s.placeCarriage p k x) := by
    intro x k
    unfold State.placeCarriage
    dsimp only
    split
    · split
      · have route : Moves s (s.setRoute p (s.routes[p].disarm x)) :=
          .route (disarmed _ x) fun y l h => Route.names_of_shadow (x := y) h
        exact route.trans ((State.raise_moves _ _).trans (State.place_moves _ p k))
      · exact s.raise_moves _
    · exact s.place_moves p k
  unfold State.placePassed
  split
  · exact s.place_moves p _
  · split
    · exact .refl
    · split
      · split
        · split
          · exact s.place_moves p _
          · exact carriage _ _
        · exact s.place_moves p _
      · exact s.place_moves p _

theorem State.placeReply_moves (p : Feed) {r : Reply} {rest : List Reply} (head : s.replyQueue = r :: rest) :
    Moves s (s.placeReply p r rest) := by
  have queue : (s.place p r.packet).replyQueue = s.replyQueue := by
    unfold State.place State.updateLine
    split <;> rfl
  exact ((s.place_moves p _).trans (Move.placed _ r rest (queue.trans head)).moves).trans (State.runQueue_moves _)

theorem State.repliesLoop_moves (p : Feed) (fresh : Bool) (n : Nat) : Moves s (s.repliesLoop p fresh n) := by
  induction n generalizing s with
  | zero => exact .refl
  | succ n ih =>
    unfold State.repliesLoop
    split
    · split
      · split
        next => exact .refl
        next r rest head =>
          have placed := s.placeReply_moves p head
          split
          · exact placed.trans (ih _)
          · split
            · exact placed
            · exact .refl
      · exact .refl
    · exact .refl

theorem State.carriageRequest_moves (p : Feed) (k : Nat) : Moves s (s.carriageRequest p k) := by
  have record : (s.popFeed p k).carriage = s.carriage := by rw [State.popFeed_frame]
  unfold State.carriageRequest
  rw [← record]
  exact (s.popFeed_moves p k).trans (Move.request _ p k).moves

theorem makeLineStep_moves (x : LineStep) (p : Feed) (l : Line) : Moves s (makeLineStep x p l s) := by
  cases x with
  | passed =>
    unfold makeLineStep State.passedStep
    dsimp only
    split
    · exact forList_moves s fun y _ t => t.placePassed_moves p y
    · exact forList_moves s fun y _ t => t.place_moves p _
  | beacon =>
    have taken : Moves s { s with beaconPending := false } := .free rfl le_rfl id
    unfold makeLineStep State.beaconStep
    dsimp only
    split
    · split
      · split
        · exact taken.trans ((State.place_moves _ p _).trans (State.updateLine_moves _ p _))
        · exact .refl
      · exact s.updateLine_moves p _
    · exact .refl
  | replies =>
    unfold makeLineStep State.repliesStep
    dsimp only
    split
    · exact s.repliesLoop_moves p _ _
    · exact .refl
  | carriage =>
    unfold makeLineStep State.carriageStep
    dsimp only
    split
    · split
      · exact s.carriageRequest_moves p _
      · split
        · exact s.carriageRequest_moves p _
        · have routes : ∀ k, (s.carriageRequest p k).routes = s.routes := fun k => by
            rw [State.carriageRequest, State.setCarriage_routes, State.popFeed_frame]
          refine (s.carriageRequest_moves p _).trans (.trans (Moves.route_of_maps ?_ ?_)
            (forList_moves _ fun y _ t => t.place_moves p y))
          · rw [routes]; rfl
          · rw [routes]; rfl
    · exact .refl

theorem State.assembleTo_moves (p : Feed) (upTo : LineStep) : Moves s (s.assembleTo p upTo) :=
  forList_moves s fun x _ t => by
    unfold State.makeStep
    split
    next l line =>
      split
      · exact (Moves.output_of_line line _).trans (makeLineStep_moves _ x p _)
      · exact .refl
    next => exact .refl

/-! ### Every command -/

/-- Every command but POWER_ON_RESET answers a state that a run of moves reaches. -/
theorem exec_moves (c : Instr) (h : ∀ straps feed, c ≠ .powerOnReset straps feed) :
    ∃ t, exec c s = .next t ∧ Moves s t := by
  cases c with
  | powerOnReset straps feed => exact absurd rfl (h straps feed)
  | lineMarker a dt => exact ⟨_, rfl, (s.elapse_moves dt).trans (State.arrive_moves _ a _)⟩
  | frameMarker a dt => exact ⟨_, rfl, (s.elapse_moves dt).trans (State.arrive_moves _ a _)⟩
  | pictureMark a dt => exact ⟨_, rfl, (s.elapse_moves dt).trans (State.arrive_moves _ a _)⟩
  | packetComplete a kind payload sum => exact ⟨_, rfl, s.arrive_moves a _⟩
  | packetBegins a => exact ⟨_, rfl, s.arrive_moves a _⟩
  | malformedHeader a kind span => exact ⟨_, rfl, s.arrive_moves a _⟩
  | lossTimerExpiry p dt =>
    unfold exec execLossTimerExpiry
    dsimp only
    split
    · exact ⟨_, rfl, (s.elapse_moves dt).trans (State.lossExpired_moves _ p)⟩
    · exact ⟨_, rfl, s.elapse_moves dt⟩
  | housePulse dt => exact ⟨_, rfl, (s.elapse_moves dt).trans (State.pulse_moves _)⟩
  | absenceTimerExpiry dt =>
    unfold exec execAbsenceTimerExpiry
    dsimp only
    split
    · exact ⟨_, rfl, (s.elapse_moves dt).trans (State.absenceExpired_moves _)⟩
    · exact ⟨_, rfl, s.elapse_moves dt⟩
  | freewheelTimerExpiry dt =>
    unfold exec execFreewheelTimerExpiry
    dsimp only
    split
    · exact ⟨_, rfl, (s.elapse_moves dt).trans (State.freewheelExpired_moves _)⟩
    · exact ⟨_, rfl, s.elapse_moves dt⟩
  | watchExpired p e => exact ⟨_, rfl, .of_veilRules fun d => State.settleAbsence_veil d p e s⟩
  | tallyReached p e => exact ⟨_, rfl, .of_veilRules fun d => State.settleTally_veil d p e s⟩
  | sweep => exact ⟨_, rfl, s.settleSweep_moves⟩
  | generatedLineStart p dt => exact ⟨_, rfl, (s.elapse_moves dt).trans (State.generatedLine_moves _ p)⟩
  | outputLineAssembly p upTo => exact ⟨_, rfl, s.assembleTo_moves p upTo⟩
  | swapRoutes broadcast tag feeds => cases broadcast <;> exact ⟨_, rfl, s.submit_moves _⟩
  | readEntryRule | readEntryLane | readEntryRouteShadow | readEntryRouteLive | readEntryStream | readEntryPath
  | readEntryProbe | readEntrySettings | writeEntryRule | writeEntryLane | writeEntryRouteShadow | writeEntryPath
  | writeEntrySettings | writeEntryUnwritable | copyLive | flushLane | returnPrimary | resume | clearStreams | readStatus
  | clearNotice | probeStart | probeStop | restart | badCommand | broadcastDiscard =>
    exact ⟨_, rfl, s.submit_moves _⟩

/-- What every move keeps, a run of moves keeps. -/
theorem Moves.keeps {P : State → Prop} (move : ∀ s t, Move s t → P s → P t) {s t : State} (h : Moves s t) (hs : P s) :
    P t := by
  induction h with
  | refl => exact hs
  | tail _ last ih => exact move _ _ last ih

/-- A law that every move keeps holds through every step, when it does not ask for the commands that wait and the device
address: POWER_ON_RESET is a reset of the blocks, words and settings that no law speaks of, and a new address. -/
theorem step_keeps {P : State → Prop} (move : ∀ s t, Move s t → P s → P t)
    (blind : ∀ s waiting address, P s → P { s with pending := waiting, deviceAddress := address }) :
    ∀ s t, P s → step s = .next t → P t := by
  intro s t hs ht
  unfold step at ht
  split at ht
  next => cases ht; exact hs
  next c rest _ =>
    have hs' : P { s with pending := rest } := blind s rest s.deviceAddress hs
    by_cases h : ∃ straps feed, c = .powerOnReset straps feed
    · obtain ⟨straps, feed, rfl⟩ := h
      cases ht
      have reset : Moves { s with pending := rest } { { s with pending := rest }.resetBlocks with
          written := State.reset.written, settings := settingsReset feed } :=
        (Move.reset _).moves.trans (Moves.free rfl le_rfl id)
      exact blind _ rest (addressOfStraps straps) (reset.keeps move hs')
    · obtain ⟨u, hu, moves⟩ := exec_moves { s with pending := rest } c fun straps feed e => h ⟨straps, feed, e⟩
      rw [hu] at ht
      cases ht
      exact moves.keeps move hs'

end

end Sys2Proof.Machine
end

section
/-! SUPPORT. The laws of the part, each through every move, and so through every step. -/

namespace Sys2Proof.Machine

/-! ### What is read of a changed vector -/

/-- A fact of every record holds of the records after one write, when it holds of what is written. -/
theorem vector_set_forall {α : Type} {n : Nat} {v : Vector α n} {i : Fin n} {x : α} {P : Fin n → α → Prop}
    (hx : P i x) (hv : ∀ j, P j v[j]) (j : Fin n) : P j (v.set i x)[j] := by
  by_cases h : j = i
  · subst h
    rwa [vector_set_same]
  · rw [vector_set_other _ _ h]
    exact hv j

theorem vector_replicate_get {α : Type} {n : Nat} (x : α) (i : Fin n) : (Vector.replicate n x)[i] = x := by simp

/-! ### The records at reset -/

section

variable (p : Feed) (l : LaneId) (i : Fin 48)

theorem State.reset_port : State.reset.ports[p] = portReset := vector_replicate_get _ _
theorem State.reset_lane : State.reset.lanes[l] = laneReset := vector_replicate_get _ _
theorem State.reset_stream : State.reset.streams[i] = none := vector_replicate_get _ _
theorem State.reset_carriage : State.reset.carriage[p] = carriageReset := vector_replicate_get _ _
theorem State.reset_route : State.reset.routes[p] = routeReset := vector_replicate_get _ _
theorem State.reset_path : State.reset.paths[p] = pathReset := vector_replicate_get _ _
theorem State.reset_raster : State.reset.rasters[p] = none := vector_replicate_get _ _
theorem State.reset_output : State.reset.outputs[p] = .dark := vector_replicate_get _ _

end

/-! ### Command and reply queues (R151) -/

theorem Move.keeps_queueLaw {s t : State} (h : Move s t) (hs : s.QueueLaw) : t.QueueLaw := by
  obtain ⟨commands, replies⟩ := hs
  cases h with
  | command c room => exact ⟨by simpa using room, replies⟩
  | dequeue c rest head =>
    rw [head, List.length_cons] at commands
    exact ⟨Nat.le_of_succ_le commands, replies⟩
  | reply r room => exact ⟨commands, by simpa using room⟩
  | placed r rest head =>
    rw [head, List.length_cons] at replies
    exact ⟨commands, Nat.le_of_succ_le replies⟩
  | reset => exact ⟨Nat.zero_le _, Nat.zero_le _⟩
  | free | lane | descriptor | entry | learn | replace | remove | age | route | frameStart | request | rate | port | path
  | raster | output => exact ⟨commands, replies⟩

/-- Settles O55: every move keeps the bounds, since what lengthens a queue has found room in it. -/
theorem stepKeepsQueueLaw : Obligations.StepKeepsQueueLaw := by
  unfold Obligations.StepKeepsQueueLaw
  exact step_keeps (fun _ _ => Move.keeps_queueLaw) fun _ _ _ h => h

/-! ### Stream table (R60) -/

/-- The valid entries, counted. -/
theorem State.validEntries_eq (s : State) : s.validEntries = s.streams.toList.countP Option.isSome :=
  List.countP_eq_length_filter.symm

/-- One entry written: the count loses the entry that stood there and gains the one written. -/
theorem State.validEntries_setStream (i : Fin 48) (e : Option StreamEntry) (s : State) :
    (s.setStream i e).validEntries + (if s.streams[i].isSome then 1 else 0) =
      s.validEntries + if e.isSome then 1 else 0 := by
  have bound : i.val < s.streams.toList.length := by simp
  have at_i : s.streams.toList[i.val] = s.streams[i] := by simp
  have counted := List.countP_set (p := Option.isSome) (a := e) bound
  have some_counts : s.streams[i].isSome = true → 0 < s.streams.toList.countP Option.isSome := fun h =>
    List.countP_pos_iff.mpr ⟨s.streams[i], by rw [← at_i]; exact List.getElem_mem bound, h⟩
  rw [State.validEntries_eq, State.validEntries_eq, State.setStream_streams, Vector.toList_set, counted, at_i]
  cases h : s.streams[i].isSome
  · simp
  · have := some_counts h
    simp only [if_true]
    omega

/-- The entries that a condition leaves and those that it picks are the entries. -/
theorem countP_filter_add_length (pick : StreamEntry → Bool) (l : List (Option StreamEntry)) :
    (l.map fun e => e.filter fun x => !pick x).countP Option.isSome +
      (l.filterMap fun e => (e.filter pick).map StreamEntry.source).length = l.countP Option.isSome := by
  induction l with
  | nil => rfl
  | cons e l ih =>
    cases e with
    | none => simpa using ih
    | some x =>
      cases h : pick x <;> simp [h, Option.filter] <;> simp [Option.filter] at ih <;> omega

/-- A stream without an entry is no entry's stream. -/
theorem State.findStream_eq_none_iff (x : Source) (s : State) :
    s.findStream x = none ↔ ∀ (i : Fin 48) (e : StreamEntry), s.streams[i] = some e → e.source ≠ x := by
  unfold State.findStream
  rw [List.find?_eq_none]
  refine ⟨fun h i e he hx => h i (List.mem_finRange i) (by simp only [he]; simp [hx]), fun h i _ hi => ?_⟩
  cases he : s.streams[i] with
  | none => simp [he] at hi
  | some e => exact h i e he (by simpa [he] using hi)

/-- The streams of a table whose entries take their streams from those of another with distinct ones. -/
theorem streams_distinct {v w : Vector (Option StreamEntry) 48}
    (hv : ∀ i j : Fin 48, i ≠ j → ∀ a b, v[i] = some a → v[j] = some b → a.source ≠ b.source)
    (from_v : ∀ (i : Fin 48) (a : StreamEntry), w[i] = some a → ∃ b, v[i] = some b ∧ b.source = a.source) :
    ∀ i j : Fin 48, i ≠ j → ∀ a b, w[i] = some a → w[j] = some b → a.source ≠ b.source := by
  intro i j hij a b ha hb
  obtain ⟨a', ha', hsa⟩ := from_v i a ha
  obtain ⟨b', hb', hsb⟩ := from_v j b hb
  rw [← hsa, ← hsb]
  exact hv i j hij a' b' ha' hb'

/-- A new stream in a table of distinct ones. -/
theorem State.setStream_distinct {s : State} {i : Fin 48} {e : StreamEntry} (new : s.findStream e.source = none)
    (hs : ∀ i j : Fin 48, i ≠ j → ∀ a b, s.streams[i] = some a → s.streams[j] = some b → a.source ≠ b.source) :
    ∀ j k : Fin 48, j ≠ k → ∀ a b, (s.setStream i (some e)).streams[j] = some a →
      (s.setStream i (some e)).streams[k] = some b → a.source ≠ b.source := by
  have unknown := (State.findStream_eq_none_iff _ s).mp new
  intro j k hjk a b ha hb
  by_cases hj : j = i
  · subst hj
    rw [State.setStream_same] at ha
    rw [State.setStream_other _ _ _ (Ne.symm hjk)] at hb
    cases ha
    exact (unknown k b hb).symm
  · rw [State.setStream_other _ _ _ hj] at ha
    by_cases hk : k = i
    · subst hk
      rw [State.setStream_same] at hb
      cases hb
      exact unknown j a ha
    · rw [State.setStream_other _ _ _ hk] at hb
      exact hs j k hjk a b ha hb

theorem State.reset_streamLaw : State.reset.StreamLaw :=
  ⟨by decide +kernel, fun i _ _ a _ ha => absurd ((State.reset_stream i).symm.trans ha) (by simp)⟩

theorem Move.keeps_streamLaw {s t : State} (h : Move s t) (hs : s.StreamLaw) : t.StreamLaw := by
  obtain ⟨count, distinct⟩ := hs
  cases h with
  | entry i e same =>
    have valid : e.isSome = s.streams[i].isSome := by
      rw [← Option.isSome_map (f := StreamEntry.source), same, Option.isSome_map]
    refine ⟨?_, streams_distinct distinct fun j a ha => ?_⟩
    · have := s.validEntries_setStream i e
      rw [valid] at this
      show s.tableCount = _
      omega
    · by_cases hj : j = i
      · subst hj
        rw [State.setStream_same] at ha
        rw [ha, Option.map_some, eq_comm, Option.map_eq_some_iff] at same
        exact same
      · rw [State.setStream_other _ _ _ hj] at ha
        exact ⟨a, ha, rfl⟩
  | learn i e free new =>
    refine ⟨?_, State.setStream_distinct new distinct⟩
    have := s.validEntries_setStream i (some e)
    simp only [free, Option.isSome_none, Option.isSome_some, if_true, Bool.false_eq_true, if_false] at this
    show s.tableCount + 1 = (s.setStream i (some e)).validEntries
    omega
  | replace i e taken new =>
    refine ⟨?_, State.setStream_distinct new distinct⟩
    have := s.validEntries_setStream i (some e)
    simp only [Option.isSome_iff_ne_none.mpr taken, Option.isSome_some, if_true] at this
    show s.tableCount = (s.setStream i (some e)).validEntries
    omega
  | remove pick =>
    refine ⟨?_, streams_distinct distinct fun j a ha => ?_⟩
    · have := countP_filter_add_length pick s.streams.toList
      rw [State.validEntries_eq] at count ⊢
      show s.tableCount - (s.sourcesWhere pick).length = (s.streams.map _).toList.countP Option.isSome
      rw [Vector.toList_map, count, State.sourcesWhere]
      omega
    · have : (s.streams[j].filter fun x => !pick x) = some a := by simpa [State.freeWhere] using ha
      exact ⟨a, (Option.filter_eq_some_iff.mp this).1, rfl⟩
  | age f same =>
    refine ⟨?_, streams_distinct distinct fun j a ha => ?_⟩
    · rw [State.validEntries_eq] at count ⊢
      show s.tableCount = (s.streams.map _).toList.countP Option.isSome
      rw [Vector.toList_map, List.countP_map, count]
      congr 1
      funext e
      exact (Option.isSome_map (f := f) (x := e)).symm
    · have : s.streams[j].map f = some a := by simpa using ha
      obtain ⟨b, hb, rfl⟩ := Option.map_eq_some_iff.mp this
      exact ⟨b, hb, (same b).symm⟩
  | reset => exact State.reset_streamLaw
  | free | lane | descriptor | route | frameStart | request | rate | port | path | raster | output | command | dequeue
  | reply | placed => exact ⟨count, distinct⟩

theorem Move.keeps_sweepReached {s t : State} (h : Move s t) (hs : s.sweepReached = false) :
    t.sweepReached = false := by
  cases h with
  | free u time sweep => exact sweep hs
  | reset => rfl
  | lane | descriptor | entry | learn | replace | remove | age | route | frameStart | request | rate | port | path
  | raster | output | command | dequeue | reply | placed => exact hs

/-- Settles O56: an entry is written over one of its own stream, or for a stream that no entry has; and a tick that calls
for a sweep makes it before any other move. -/
theorem stepKeepsStreamLaw : Obligations.StepKeepsStreamLaw := by
  unfold Obligations.StepKeepsStreamLaw
  exact ⟨step_keeps (fun _ _ => Move.keeps_streamLaw) fun _ _ _ h => h,
    step_keeps (fun _ _ => Move.keeps_sweepReached) fun _ _ _ h => h⟩

/-! ### Lanes (R74, R78) -/

theorem Lane.append_state_idle_iff (x : Lane) (c : CheckedSet) : (x.append c).state = .idle ↔ x.state = .idle := by
  unfold Lane.append
  dsimp only
  split
  next h =>
    obtain ⟨h | h, -⟩ := h
    · simp [h]
    · simp [h]
  next => rfl

/-- A lane on a stream has a primary, and so does not idle (R74, R78). -/
theorem Lane.primary_of_activeStream {x : Lane} (law : x.Law) (h : x.activeStream.isSome) : x.primary ≠ none := by
  obtain ⟨-, -, -, -, behind, -, -⟩ := law
  unfold Lane.activeStream at h
  rw [← Option.isSome_iff_ne_none]
  split at h
  · exact h
  · exact behind h

theorem Lane.pop_law {x : Lane} (law : x.Law) : x.pop.1.Law := by
  by_cases running : x.state = .running
  · obtain ⟨fill, idle, -, source, behind, target⟩ := law
    cases fifo : x.fifo with
    | nil =>
      rw [Lane.pop_empty running fifo]
      rw [running] at idle
      exact ⟨fill, by simpa using idle, (fun h => by cases h), source, behind, target⟩
    | cons y rest =>
      rw [Lane.pop_cons running fifo]
      rw [fifo, List.length_cons] at fill
      exact ⟨Nat.le_of_succ_le fill, idle, (fun h => by rw [running] at h; cases h), source, behind, target⟩
  · rw [Lane.pop_of_not_running running]
    exact law

theorem Lane.popTimes_law {x : Lane} (k : Nat) (law : x.Law) : (x.popTimes k).1.Law := by
  induction k generalizing x with
  | zero => exact law
  | succ k ih => exact ih (Lane.pop_law law)

theorem Lane.corrected_law {x : Lane} (law : x.Law) : x.corrected.Law := by
  obtain ⟨fill, idle, empty, source, behind, target⟩ := id law
  have notIdle : x.state = .running → ¬ x.state = .idle := fun running h => by rw [running] at h; cases h
  by_cases running : x.state = .running
  · by_cases above : x.target + x.window < x.fifo.length
    · rw [Lane.corrected_of_drop (Lane.correction_of_above running above)]
      exact ⟨by rw [List.length_tail]; omega, idle, fun h => absurd h (notIdle running), source, behind, target⟩
    · by_cases below : x.fifo.length + x.window < x.target
      · rw [Lane.corrected_of_repeatLast (Lane.correction_of_below running below)]
        exact ⟨by rw [List.length_cons]; omega, idle, fun h => absurd h (notIdle running), source, behind, target⟩
      · rw [Lane.corrected_of_leave (Lane.correction_of_within (Nat.le_of_not_lt above) (Nat.le_of_not_lt below))]
        exact law
  · rw [Lane.corrected_of_leave (Lane.correction_of_notRunning running)]
    exact law

/-- An emptied lane that primes keeps the laws, when its active source is there. -/
theorem Lane.emptied_law {x : Lane} {a : Active} (law : x.Law) (primary : x.primary ≠ none)
    (source : a = .backup → x.backup.isSome) : (x.emptied a .priming).Law := by
  obtain ⟨-, -, -, -, behind, target⟩ := law
  exact ⟨Nat.zero_le _, by simpa [Lane.emptied] using primary, (fun h => by cases h), source, behind, target⟩

theorem LaneMove.keeps_law {x y : Lane} (h : LaneMove x y) (law : x.Law) : y.Law := by
  cases h with
  | append c onStream room range =>
    have primary := Lane.primary_of_activeStream law onStream
    obtain ⟨-, idle, -, source, behind, target⟩ := law
    have notIdle : ¬ (x.append c).state = .idle := by rwa [Lane.append_state_idle_iff, idle]
    exact ⟨by simpa [Lane.append] using room, iff_of_false notIdle primary, fun h => absurd h notIdle, source, behind,
      target⟩
  | overrun n => exact law
  | failover primary backup => exact Lane.emptied_law law (Option.isSome_iff_ne_none.mp primary) fun _ => backup
  | toPrimary primary => exact Lane.emptied_law law (Option.isSome_iff_ne_none.mp primary) fun h => by cases h
  | flush notIdle =>
    obtain ⟨-, idle, -, source, -⟩ := id law
    exact Lane.emptied_law law (mt idle.mpr notIdle) source
  | popped k => exact Lane.popTimes_law k law
  | corrected => exact Lane.corrected_law law

theorem Lane.described_law {x : Lane} {d : LaneDescriptor} (law : x.Law) (behind : d.backup.isSome → d.primary.isSome)
    (target : 16 ≤ d.target ∧ d.target ≤ 1984) : (x.described d).Law := by
  obtain ⟨fill, idle, empty, source, -⟩ := law
  unfold Lane.described
  split
  · refine ⟨Nat.zero_le _, ?_, fun _ => rfl, (fun h => by cases h), behind, target⟩
    show (if d.primary.isSome then LaneState.priming else LaneState.idle) = .idle ↔ d.primary = none
    cases d.primary <;> simp
  next stays =>
    simp only [Lane.moves, Bool.or_eq_true, bne_iff_ne, not_or, not_not] at stays
    obtain ⟨⟨primary, backup⟩, -⟩ := stays
    exact ⟨fill, by rw [primary] at idle; exact idle, empty, by rw [backup] at source; exact source, behind, target⟩

theorem laneReset_law : laneReset.Law :=
  ⟨Nat.zero_le _, iff_of_true rfl rfl, fun _ => rfl, (fun h => by cases h), (fun h => by cases h), (by decide), by decide⟩

theorem State.reset_laneLaw : State.reset.LaneLaw := fun l => by
  rw [State.reset_lane]
  exact laneReset_law

theorem Move.keeps_laneLaw {s t : State} (h : Move s t) (hs : s.LaneLaw) : t.LaneLaw := by
  cases h with
  | lane l x moves => exact vector_set_forall (P := fun _ => Lane.Law) (moves.keeps_law (hs l)) hs
  | descriptor l d free backup target =>
    exact vector_set_forall (P := fun _ => Lane.Law) (Lane.described_law (hs l) backup target) hs
  | reset => exact State.reset_laneLaw
  | free | entry | learn | replace | remove | age | route | frameStart | request | rate | port | path | raster | output
  | command | dequeue | reply | placed => exact hs

/-! ### The range of samples (00_scope.md, Samples) -/

theorem negateSample_inRange {v : Int} (h : InRange v) : InRange (negateSample v) := by
  obtain ⟨lower, upper⟩ := h
  unfold negateSample
  split <;> constructor <;> omega

theorem storedValue_inRange {invert : Bool} {hold : Int} {c : CheckedSample} (hold_range : InRange hold)
    (range : InRange c.value) : InRange (storedValue invert hold c) := by
  unfold storedValue
  split
  · split
    · exact negateSample_inRange range
    · exact range
  · exact hold_range

theorem zero_inRange : InRange 0 := by decide

theorem zeroSet_inRange : zeroSet.InRange := ⟨zero_inRange, zero_inRange⟩

theorem Lane.emptied_sampleLaw (x : Lane) (a : Active) (y : LaneState) : (x.emptied a y).SampleLaw :=
  ⟨nofun, zeroSet_inRange, zero_inRange, zero_inRange⟩

theorem Lane.pop_sampleLaw {x : Lane} (law : x.SampleLaw) : x.pop.1.SampleLaw := by
  by_cases running : x.state = .running
  · cases fifo : x.fifo with
    | nil =>
      rw [Lane.pop_empty running fifo]
      exact law
    | cons y rest =>
      obtain ⟨sets, -, hold⟩ := law
      rw [Lane.pop_cons running fifo]
      rw [fifo] at sets
      exact ⟨fun z hz => sets z (by simp [hz]), sets y (by simp), hold⟩
  · rw [Lane.pop_of_not_running running]
    exact law

theorem Lane.popTimes_sampleLaw {x : Lane} (k : Nat) (law : x.SampleLaw) : (x.popTimes k).1.SampleLaw := by
  induction k generalizing x with
  | zero => exact law
  | succ k ih => exact ih (Lane.pop_sampleLaw law)

theorem Lane.corrected_sampleLaw {x : Lane} (law : x.SampleLaw) : x.corrected.SampleLaw := by
  obtain ⟨sets, lastOut, hold⟩ := id law
  cases h : x.correction with
  | drop =>
    rw [Lane.corrected_of_drop h]
    exact ⟨fun y hy => sets y (List.mem_of_mem_tail hy), lastOut, hold⟩
  | repeatLast =>
    rw [Lane.corrected_of_repeatLast h]
    exact ⟨fun y hy => (List.mem_cons.mp hy).elim (fun e => e ▸ lastOut) (sets y), lastOut, hold⟩
  | leave =>
    rw [Lane.corrected_of_leave h]
    exact law

theorem LaneMove.keeps_sampleLaw {x y : Lane} (h : LaneMove x y) (law : x.SampleLaw) : y.SampleLaw := by
  cases h with
  | append c onStream room range =>
    obtain ⟨sets, lastOut, holdLeft, holdRight⟩ := law
    obtain ⟨left, right⟩ := range
    have left := storedValue_inRange (invert := x.invertLeft) holdLeft left
    have right := storedValue_inRange (invert := x.invertRight) holdRight right
    refine ⟨fun y hy => ?_, lastOut, left, right⟩
    rcases List.mem_append.mp hy with hy | hy
    · exact sets y hy
    · obtain rfl := List.mem_singleton.mp hy
      exact ⟨left, right⟩
  | overrun n => exact law
  | failover | toPrimary | flush => exact Lane.emptied_sampleLaw _ _ _
  | popped k => exact Lane.popTimes_sampleLaw k law
  | corrected => exact Lane.corrected_sampleLaw law

theorem Lane.described_sampleLaw {x : Lane} (d : LaneDescriptor) (law : x.SampleLaw) : (x.described d).SampleLaw := by
  unfold Lane.described
  split
  · exact Lane.emptied_sampleLaw _ _ _
  · exact law

theorem State.reset_sampleLaw : State.reset.SampleLaw := fun l => by
  rw [State.reset_lane]
  exact ⟨nofun, zeroSet_inRange, zero_inRange, zero_inRange⟩

theorem Move.keeps_sampleLaw {s t : State} (h : Move s t) (hs : s.SampleLaw) : t.SampleLaw := by
  cases h with
  | lane l x moves => exact vector_set_forall (P := fun _ => Lane.SampleLaw) (moves.keeps_sampleLaw (hs l)) hs
  | descriptor l d free backup target =>
    exact vector_set_forall (P := fun _ => Lane.SampleLaw) (Lane.described_sampleLaw d (hs l)) hs
  | reset => exact State.reset_sampleLaw
  | free | entry | learn | replace | remove | age | route | frameStart | request | rate | port | path | raster | output
  | command | dequeue | reply | placed => exact hs

/-- Settles O57: every move of a lane keeps its laws and the range of its samples. -/
theorem stepKeepsLaneLaws : Obligations.StepKeepsLaneLaws := by
  unfold Obligations.StepKeepsLaneLaws
  exact ⟨step_keeps (fun _ _ => Move.keeps_laneLaw) fun _ _ _ h => h,
    step_keeps (fun _ _ => Move.keeps_sampleLaw) fun _ _ _ h => h⟩

/-! ### Route maps (R124) -/

theorem Lane.popTimes_drain (k : Nat) (x : Lane) : (x.popTimes k).1.drain = x.drain := by
  induction k generalizing x with
  | zero => rfl
  | succ k ih =>
    refine (ih x.pop.1).trans ?_
    unfold Lane.pop
    split
    · split <;> rfl
    all_goals rfl

theorem Lane.corrected_drain (x : Lane) : x.corrected.drain = x.drain := by
  unfold Lane.corrected
  split <;> rfl

theorem LaneMove.keeps_drain {x y : Lane} (h : LaneMove x y) : y.drain = x.drain := by
  cases h with
  | append | overrun | failover | toPrimary | flush => rfl
  | popped k => exact x.popTimes_drain k
  | corrected => exact x.corrected_drain

theorem Lane.described_drain (x : Lane) (d : LaneDescriptor) : (x.described d).drain = d.drain := by
  unfold Lane.described
  split <;> rfl

/-- A lane write that passes the second step of R74 moves the drain only of a lane that no other feed names. -/
theorem State.drain_of_laneInUse {s : State} {l : LaneId} {drain f : Feed} (free : s.laneInUse l drain = false)
    (law : s.lanes[l].drain = f) (named : s.routes[f].names l = true) : drain = f := by
  by_contra other
  have moved : s.lanes[l].drain ≠ drain := fun e => other (e.symm.trans law)
  have used : s.laneInUse l drain = true := by
    simp only [State.laneInUse, Bool.and_eq_true, bne_iff_ne, List.any_eq_true]
    exact ⟨moved, f, List.mem_finRange f, Ne.symm other, named⟩
  rw [used] at free
  cases free

theorem routeReset_names (l : LaneId) : routeReset.names l = false := rfl

theorem State.reset_routeLaw : State.reset.RouteLaw := fun f l h => by
  rw [State.reset_route, routeReset_names] at h
  cases h

theorem Move.keeps_routeLaw {s t : State} (h : Move s t) (hs : s.RouteLaw) : t.RouteLaw := by
  cases h with
  | lane l x moves =>
    intro f n named
    by_cases hn : n = l
    · subst hn
      rw [State.setLane_same, moves.keeps_drain]
      exact hs f n named
    · rw [State.setLane_other _ _ _ hn]
      exact hs f n named
  | descriptor l d free backup target =>
    intro f n named
    by_cases hn : n = l
    · subst hn
      rw [State.setLane_same, Lane.described_drain]
      exact State.drain_of_laneInUse free (hs f n named) named
    · rw [State.setLane_other _ _ _ hn]
      exact hs f n named
  | route p r names =>
    intro f n named
    by_cases hf : f = p
    · subst hf
      rw [State.setRoute_same] at named
      exact (names n named).elim (hs f n) id
    · rw [State.setRoute_other _ _ _ hf] at named
      exact hs f n named
  | reset => exact State.reset_routeLaw
  | free | entry | learn | replace | remove | age | frameStart | request | rate | port | path | raster | output | command
  | dequeue | reply | placed => exact hs

/-- Settles O58: an entry is stored only for lanes that drain to its feed, and a drain moves only where no entry of another
feed names the lane. -/
theorem stepKeepsRouteLaw : Obligations.StepKeepsRouteLaw := by
  unfold Obligations.StepKeepsRouteLaw
  exact step_keeps (fun _ _ => Move.keeps_routeLaw) fun _ _ _ h => h

/-! ### Cadence and counters (R101 to R105) -/

theorem sharedLines_range (lines quiet : Nat) : 1 ≤ sharedLines lines quiet ∧ sharedLines lines quiet ≤ 2047 := by
  unfold sharedLines
  omega

/-- A frame takes at most 4,004 sets: one second's share of 48,048,000 by at least 12,000 frames, and less than one set of
the frames before (R101). -/
theorem frameCount_le {a fn fd : Nat} (fn_low : 12000 ≤ fn) (hfd : fd = 1000 ∨ fd = 1001) (ha : a < fn) :
    (a + setsPerCadence fd) / fn ≤ 4004 := by
  have owed : setsPerCadence fd ≤ 4004 * 12000 := by
    unfold setsPerCadence
    omega
  have sum : a + setsPerCadence fd < fn * 4005 := by omega
  exact Nat.le_of_lt_succ (Nat.div_lt_of_lt_mul sum)

theorem Carriage.frameStart_law {x : Path} {c : Carriage} (quiet lines : Nat) (h : carriageLaw x c) :
    carriageLaw x (c.frameStart x.fn x.fd quiet lines) := by
  obtain ⟨fn_low, fn_high, hfd, cadence, accumulator, phase, -⟩ := h
  have lines_range := sharedLines_range lines quiet
  refine ⟨fn_low, fn_high, hfd, cadence, Nat.mod_lt _ (by omega), ?_, lines_range.1, lines_range.2,
    frameCount_le fn_low hfd accumulator, ?_, Nat.min_le_left _ _⟩
  · show c.nextPhase x.fn x.fd < 16
    unfold Carriage.nextPhase
    split
    · omega
    · split <;> omega
  · simp [Carriage.frameStart]

/-- The due of a line joins what the lines before it were given (R105). -/
theorem given_add_due (count lines position : Nat) :
    min position lines * count / lines + dueOf count lines position = min (position + 1) lines * count / lines := by
  by_cases h : position < lines
  · have rises : position * count / lines ≤ (position + 1) * count / lines :=
      Nat.div_le_div_right (Nat.mul_le_mul_right count (Nat.le_succ position))
    rw [dueOf_of_lt h, Nat.min_eq_left h.le, Nat.min_eq_left h, Nat.add_sub_cancel' rises]
  · have h := Nat.le_of_not_lt h
    rw [dueOf_of_le h, Nat.min_eq_right h, Nat.min_eq_right (Nat.le_succ_of_le h), Nat.add_zero]

theorem Carriage.requested_law {x : Path} {c : Carriage} (k : Nat) (h : carriageLaw x c) :
    carriageLaw x (c.requested k) := by
  obtain ⟨fn_low, fn_high, hfd, cadence, accumulator, phase, lines_low, lines_high, count, given, owed⟩ := h
  refine ⟨fn_low, fn_high, hfd, cadence, accumulator, phase, lines_low, lines_high, count, ?_, ?_⟩
  · show c.given + c.due = _
    rw [given]
    exact given_add_due _ _ _
  · show c.owed + c.due - k ≤ 8 + (c.given + c.due)
    omega

theorem State.reset_carriageLaw : State.reset.CarriageLaw := fun p => by
  rw [State.reset_path, State.reset_carriage]
  exact ⟨(by decide), (by decide), .inl rfl, (by decide), (by decide), (by decide), (by decide), (by decide), (by decide), rfl, by decide⟩

/-- The law of a feed after a write of its carriage record. -/
theorem State.setCarriage_law {s : State} {p : Feed} {c : Carriage} (hc : carriageLaw s.paths[p] c) (hs : s.CarriageLaw) :
    (s.setCarriage p c).CarriageLaw :=
  vector_set_forall (P := fun q c => carriageLaw s.paths[q] c) hc hs

theorem Move.keeps_carriageLaw {s t : State} (h : Move s t) (hs : s.CarriageLaw) : t.CarriageLaw := by
  cases h with
  | frameStart p quiet lines => exact State.setCarriage_law (Carriage.frameStart_law quiet lines (hs p)) hs
  | request p k => exact State.setCarriage_law (Carriage.requested_law k (hs p)) hs
  | rate p x c fn fd cadence begins =>
    obtain ⟨fn_low, fn_high⟩ := fn
    obtain ⟨-, -, -, -, accumulator, counters⟩ := hs p
    have law : carriageLaw (s.paths[p].withSettings x) c := by
      rcases begins with ⟨hfn, -, rfl⟩ | rfl
      · exact ⟨fn_low, fn_high, fd, cadence, by rw [← hfn] at accumulator; exact accumulator, counters⟩
      · exact ⟨fn_low, fn_high, fd, cadence, Nat.lt_of_lt_of_le (Nat.zero_lt_succ _) fn_low, counters⟩
    intro q
    by_cases hq : q = p
    · subst hq
      rw [State.setCarriage_same, State.setCarriage_paths, State.setPath_same]
      exact law
    · rw [State.setCarriage_other _ _ _ hq, State.setCarriage_paths, State.setPath_other _ _ _ hq]
      exact hs q
  | path p x fn fd law =>
    refine vector_set_forall (P := fun q x => carriageLaw x s.carriage[q]) ?_ hs
    have own := hs p
    unfold carriageLaw at own ⊢
    rw [fn, fd]
    exact own
  | reset => exact State.reset_carriageLaw
  | free | lane | descriptor | entry | learn | replace | remove | age | route | port | raster | output | command | dequeue
  | reply | placed => exact hs

/-- Settles O59: a frame start and a line's request keep the ranges, a rate that a path takes is in its own, and a rate
change empties the accumulator. -/
theorem stepKeepsCarriageLaw : Obligations.StepKeepsCarriageLaw := by
  unfold Obligations.StepKeepsCarriageLaw
  exact step_keeps (fun _ _ => Move.keeps_carriageLaw) fun _ _ _ h => h

/-! ### Ports, timing states, generated frames and outputs (R3, R25 to R27, R33, R35) -/

/-- The law of timing is, feed by feed, the law of its port and that of its path record. -/
theorem State.timingLaw_iff (s : State) : s.TimingLaw ↔ ∀ p : Feed, s.ports[p].Law ∧ s.PathLaw p s.paths[p] := Iff.rfl

theorem State.reset_timingLaw : State.reset.TimingLaw := fun p => by
  rw [State.reset_port, State.reset_path, State.reset_raster, State.reset_output]
  exact ⟨fun h => absurd rfl h, fun h => absurd rfl h, fun h => absurd rfl h, fun _ _ => rfl⟩

theorem Move.keeps_timingLaw {s t : State} (h : Move s t) (hs : s.TimingLaw) : t.TimingLaw := by
  rw [State.timingLaw_iff] at hs ⊢
  cases h with
  | rate p x c =>
    intro q
    obtain ⟨port, path⟩ := hs q
    refine ⟨port, ?_⟩
    by_cases hq : q = p
    · subst hq
      rw [State.setCarriage_paths, State.setPath_same]
      exact path
    · rw [State.setCarriage_paths, State.setPath_other _ _ _ hq]
      exact path
  | port p x law measured =>
    intro q
    obtain ⟨port, seen, raster, output⟩ := hs q
    by_cases hq : q = p
    · subst hq
      refine ⟨?_, fun timing => ?_, raster, output⟩ <;> rw [State.setPort_same]
      · exact law port
      · exact measured timing (seen timing)
    · refine ⟨?_, fun timing => ?_, raster, output⟩ <;> rw [State.setPort_other _ _ _ hq]
      · exact port
      · exact seen timing
  | path p x fn fd law =>
    intro q
    obtain ⟨port, path⟩ := hs q
    refine ⟨port, ?_⟩
    by_cases hq : q = p
    · subst hq
      rw [State.setPath_same]
      exact law path
    · rw [State.setPath_other _ _ _ hq]
      exact path
  | raster p g law =>
    intro q
    obtain ⟨port, seen, raster, output⟩ := hs q
    refine ⟨port, seen, fun running => ?_, output⟩
    by_cases hq : q = p
    · subst hq
      rw [State.setRaster_same] at running
      exact (law running).elim raster id
    · rw [State.setRaster_other _ _ _ hq] at running
      exact raster running
  | output p o law =>
    intro q
    obtain ⟨port, seen, raster, output⟩ := hs q
    refine ⟨port, seen, raster, fun bypass timing => ?_⟩
    by_cases hq : q = p
    · subst hq
      rw [State.setOutput_same]
      by_contra lit
      rcases law lit with h | h | h | h
      · exact h (output bypass timing)
      · exact absurd ((raster h).1.symm.trans bypass) Mode.noConfusion
      · exact absurd (h.symm.trans bypass) Mode.noConfusion
      · exact timing h
    · rw [State.setOutput_other _ _ _ hq]
      exact output bypass timing
  | reset => exact (State.timingLaw_iff _).mp State.reset_timingLaw
  | free | lane | descriptor | entry | learn | replace | remove | age | route | frameStart | request | command | dequeue
  | reply | placed => exact hs

/-- Settles O60: each move of a port, a path record, a raster or an output keeps the law of its feed. -/
theorem stepKeepsTimingLaw : Obligations.StepKeepsTimingLaw := by
  unfold Obligations.StepKeepsTimingLaw
  exact step_keeps (fun _ _ => Move.keeps_timingLaw) fun _ _ _ h => h

/-! ### Reset, and what every command keeps -/

/-- Settles O54: the base case of each law. -/
theorem lawsHoldAtReset : Obligations.LawsHoldAtReset := by
  unfold Obligations.LawsHoldAtReset
  exact ⟨⟨Nat.zero_le _, Nat.zero_le _⟩, State.reset_streamLaw, State.reset_laneLaw, State.reset_routeLaw,
    State.reset_sampleLaw, State.reset_carriageLaw, State.reset_timingLaw, rfl⟩

/-- No move touches the commands that wait or the device address, and none turns time back. -/
theorem Move.keeps_time {s t : State} (h : Move s t) :
    t.pending = s.pending ∧ t.deviceAddress = s.deviceAddress ∧ s.now ≤ t.now := by
  cases h with
  | free u time sweep => exact ⟨rfl, rfl, time⟩
  | lane | descriptor | entry | learn | replace | remove | age | route | frameStart | request | rate | port | path
  | raster | output | command | dequeue | reply | placed | reset => exact ⟨rfl, rfl, le_rfl⟩

theorem Moves.keeps_time {s t : State} (h : Moves s t) :
    t.pending = s.pending ∧ t.deviceAddress = s.deviceAddress ∧ s.now ≤ t.now :=
  h.keeps (P := fun t => t.pending = s.pending ∧ t.deviceAddress = s.deviceAddress ∧ s.now ≤ t.now)
    (fun _ _ move ⟨pending, address, now⟩ =>
      have ⟨pending', address', now'⟩ := move.keeps_time
      ⟨pending'.trans pending, address'.trans address, now.trans now'⟩)
    ⟨rfl, rfl, le_rfl⟩

/-- Settles O2: every command answers a next state (`exec_moves`), and moves leave the queue and the time alone. -/
theorem everyCommandCompletes : Obligations.EveryCommandCompletes := by
  unfold Obligations.EveryCommandCompletes
  intro c s
  by_cases h : ∃ straps feed, c = .powerOnReset straps feed
  · obtain ⟨straps, feed, rfl⟩ := h
    exact ⟨_, rfl, rfl, le_rfl⟩
  · obtain ⟨t, ht, moves⟩ := exec_moves s c fun straps feed e => h ⟨straps, feed, e⟩
    exact ⟨t, ht, moves.keeps_time.1, moves.keeps_time.2.2⟩

/-- Settles O1: `step` by its cases. -/
theorem stepRunsTheFrontCommand : Obligations.StepRunsTheFrontCommand := by
  unfold Obligations.StepRunsTheFrontCommand
  exact ⟨fun s c rest front => by rw [step, front], fun s idle => by rw [step, idle]⟩

end Sys2Proof.Machine
end

section
/-! SUPPORT. The two resets (R160, R161). -/

namespace Sys2Proof.Machine

/-- Every block of a state at its reset values, from the fields of the state. What the blocks do not name is free: the
commands that wait, the words written, the device address, the settings and the reply queue. -/
theorem State.resetBlocks_blocksAtReset (s : State) (written : Vector (List FeedWord) 8) (address : Fin 15)
    (settings : Settings) (replies : List Reply) :
    { s.resetBlocks with
      written := written, deviceAddress := address, settings := settings, replyQueue := replies }.BlocksAtReset := by
  have rules : ∀ (p : Feed) (e : RuleIndex), State.reset.rules[p][e] = ruleReset e := fun p e => by simp [State.reset]
  have slots : ∀ x : Slot, routeReset.shadow[x] = slotReset ∧ routeReset.live[x] = slotReset ∧ routeReset.clips[x] = 0 ∧
      routeReset.seenThis[x] = false ∧ routeReset.seenLast[x] = false := by decide
  have route : ∀ p : Feed, State.reset.routes[p] = routeReset := State.reset_route
  refine ⟨State.reset_port, rules, State.reset_stream, rfl, rfl, rfl, State.reset_lane, vector_replicate_get _,
    State.reset_carriage, fun p x => ?_, fun p => ?_, State.reset_path,
    fun p => ⟨State.reset_raster p, State.reset_output p⟩, rfl, rfl, rfl, vector_replicate_get _,
    fun n => vector_replicate_get _ n.index, rfl, rfl⟩
  · obtain ⟨shadow, live, clips, seenThis, seenLast⟩ := slots x
    show State.reset.routes[p].shadow[x] = _ ∧ State.reset.routes[p].live[x] = State.reset.routes[p].shadow[x] ∧
      State.reset.routes[p].clips[x] = 0 ∧ State.reset.routes[p].seenThis[x] = false ∧
      State.reset.routes[p].seenLast[x] = false
    rw [route]
    exact ⟨shadow, live.trans shadow.symm, clips, seenThis, seenLast⟩
  · show State.reset.routes[p].swapPending = false
    rw [route]
    rfl

theorem addressOfStraps_val (straps : Fin 16) : (addressOfStraps straps).val = min straps.val 14 := by
  unfold addressOfStraps
  split
  next h => exact (Nat.min_eq_left (Nat.le_of_lt_succ h)).symm
  next h => exact (Nat.min_eq_right (Nat.le_of_lt (Nat.le_of_not_lt h))).symm

/-- Settles O3: the reset writes every block, and no other command's moves touch the device address. -/
theorem powerOnResetSamplesStraps : Obligations.PowerOnResetSamplesStraps := by
  unfold Obligations.PowerOnResetSamplesStraps
  refine ⟨fun s straps feed => ⟨_, rfl, addressOfStraps_val straps, rfl, rfl,
    s.resetBlocks_blocksAtReset _ _ _ _, fun p => vector_replicate_get _ p⟩, fun c s t other ht => ?_⟩
  obtain ⟨u, hu, moves⟩ := exec_moves s c other
  rw [hu] at ht
  cases ht
  exact moves.keeps_time.2.1

/-- A state after RESTART: the blocks reset, the words `w` standing on the outputs and `replies` in the queue (R161). -/
def State.restarted (s : State) (w : Vector (List FeedWord) 8) (replies : List Reply) : State :=
  { s.resetBlocks with written := w, replyQueue := replies }

theorem State.restarted_setCommands (s : State) (behind : List Command) (w : Vector (List FeedWord) 8)
    (replies : List Reply) :
    ({ s with commandQueue := behind } : State).restarted w replies = s.restarted w replies := rfl

theorem State.restarted_blocksAtReset (s : State) (w : Vector (List FeedWord) 8) (replies : List Reply) :
    (s.restarted w replies).BlocksAtReset :=
  s.resetBlocks_blocksAtReset w s.deviceAddress s.settings replies

theorem State.restarted_setWords (s : State) (w v : Vector (List FeedWord) 8) (replies : List Reply) :
    ({ s with written := v } : State).restarted w replies = s.restarted w replies := rfl

theorem State.restarted_written (s : State) (w : Vector (List FeedWord) 8) (replies : List Reply) :
    (s.restarted w replies).written = w := rfl

theorem replied_resetBlocks (u : State) (r : Reply) :
    { u.resetBlocks with replyQueue := u.resetBlocks.replyQueue ++ [r] } = u.restarted u.written [r] := rfl

theorem State.executeCommand_of_judge {s : State} {c : Command} {a : Answer} (h : s.judge c = a) :
    s.executeCommand c =
      { a.state with replyQueue := a.state.replyQueue ++ [replyTo s.deviceAddress c a] } := by
  rw [State.executeCommand, h]

theorem State.judge_restart {s : State} {c : Command} (h : c.decode = .ok .restart) :
    s.judge c = done s.cutLines.resetBlocks := by
  rw [State.judge, h]
  rfl

/-- RESTART executed: the lines are cut, the blocks take their reset values, and the reply is the only one (R161). -/
theorem State.executeCommand_restart {s : State} {c : Command} (h : c.decode = .ok .restart) :
    s.executeCommand c = s.restarted s.cutLines.written [{ fields := [s.deviceAddress.val, c.tag, 0] }] := by
  have cut : s.cutLines.restarted s.cutLines.written [{ fields := [s.deviceAddress.val, c.tag, 0] }] =
      s.restarted s.cutLines.written [{ fields := [s.deviceAddress.val, c.tag, 0] }] :=
    (congrArg (fun t : State => t.restarted s.cutLines.written _) s.cutLines_frame).trans (s.restarted_setWords _ _ _)
  exact (State.executeCommand_of_judge (State.judge_restart h)).trans
    ((replied_resetBlocks s.cutLines _).trans cut)

theorem State.ownCommand_restart (s : State) (tag : Nat) : (s.ownCommand [tag, 13]).decode = .ok .restart := rfl

theorem State.cutLines_written_setCommands (s : State) (behind : List Command) :
    ({ s with commandQueue := behind } : State).cutLines.written = s.cutLines.written :=
  Vector.ext fun i hi => by
    have other := State.cutLines_written ⟨i, hi⟩ { s with commandQueue := behind }
    have own := State.cutLines_written ⟨i, hi⟩ s
    rw [State.cutLine_written] at other own
    exact other.trans own.symm

/-- Settles O4: `State.executeCommand_restart`, and the words that the cuts leave (`State.cutLines_written`). -/
theorem restartKeepsOnlyAddressAndSettings : Obligations.RestartKeepsOnlyAddressAndSettings := by
  unfold Obligations.RestartKeepsOnlyAddressAndSettings
  intro s tag ready
  have reached : ∀ behind : List Command,
      { s with commandQueue := behind }.executeCommand (s.ownCommand [tag.toNat, 13]) =
        s.restarted s.cutLines.written [{ fields := [s.deviceAddress.val, tag.toNat, 0] }] := by
    intro behind
    rw [State.executeCommand_restart (s.ownCommand_restart tag.toNat), State.restarted_setCommands,
      State.cutLines_written_setCommands]
    generalize s.cutLines.written = w
    rfl
  have executed : exec (.restart tag) s = .next (s.executeCommand (s.ownCommand [tag.toNat, 13])) :=
    congrArg Host.Outcome.next (State.submit_ready ready _ rfl)
  refine ⟨_, executed.trans (congrArg Host.Outcome.next (reached s.commandQueue)), rfl, rfl, rfl,
    s.restarted_blocksAtReset _ _, fun p => ?_, fun behind => ?_⟩
  · rw [State.restarted_written, State.cutLines_written, State.cutLine_written]
    cases s.outputs[p] <;> rfl
  · obtain ⟨-, room⟩ := ready
    exact (if_pos room).trans (reached behind)

end Sys2Proof.Machine
end

section
/-! SUPPORT. The slot arithmetic (R128, R129), the cadence (R101 to R103), and what the part emits reads back (R7, R11 to
R15). -/

namespace Sys2Proof.Machine

/-! ### Slot arithmetic -/

theorem saturate_inRange (v : Int) : InRange (saturate v) := by
  unfold saturate
  omega

theorem saturate_of_inRange {v : Int} (h : InRange v) : saturate v = v := by
  obtain ⟨low, high⟩ := h
  unfold saturate
  omega

theorem saturate_of_below {v : Int} (h : v < -8388608) : saturate v = -8388608 := by
  unfold saturate
  omega

theorem saturate_of_above {v : Int} (h : 8388607 < v) : saturate v = 8388607 := by
  unfold saturate
  omega

theorem clips_iff (v : Int) : clips v = true ↔ ¬InRange v := by
  simp only [clips, Bool.or_eq_true, decide_eq_true_eq, InRange]
  omega

theorem clips_count (v : Int) : (if clips v then 1 else 0) = if InRange v then 0 else 1 := by
  by_cases h : InRange v
  · rw [if_neg fun hc => (clips_iff v).mp hc h, if_pos h]
  · rw [if_pos ((clips_iff v).mpr h), if_neg h]

theorem halveIf_eq (halve : Bool) (v : Int) : halveIf halve v = if halve then v / 2 else v := by
  unfold halveIf
  rw [Int.fdiv_eq_ediv_of_nonneg v (by omega)]

theorem halveIf_inRange (halve : Bool) {v : Int} (h : InRange v) : InRange (halveIf halve v) := by
  rw [halveIf_eq]
  obtain ⟨low, high⟩ := h
  cases halve
  · exact ⟨low, high⟩
  · show -8388608 ≤ v / 2 ∧ v / 2 ≤ 8388607
    omega

/-- Two halves of samples in range add up to a value in range. -/
theorem halves_inRange {v w : Int} (hv : InRange v) (hw : InRange w) :
    InRange (halveIf true v + halveIf true w) := by
  rw [halveIf_eq, halveIf_eq]
  obtain ⟨vlow, vhigh⟩ := hv
  obtain ⟨wlow, whigh⟩ := hw
  show -8388608 ≤ v / 2 + w / 2 ∧ v / 2 + w / 2 ≤ 8388607
  omega

theorem ChannelMap.arrange_monoSum (x : SampleSet) :
    ChannelMap.arrange .monoSum x = { left := (x.left + x.right) / 2, right := (x.left + x.right) / 2 } := by
  show SampleSet.mk ((x.left + x.right).fdiv 2) ((x.left + x.right).fdiv 2) = _
  rw [Int.fdiv_eq_ediv_of_nonneg (x.left + x.right) (by omega)]

theorem ChannelMap.arrange_inRange (m : ChannelMap) {x : SampleSet} (h : x.InRange) : (m.arrange x).InRange := by
  obtain ⟨left, right⟩ := h
  cases m with
  | straight => exact ⟨left, right⟩
  | swap => exact ⟨right, left⟩
  | leftBoth => exact ⟨left, left⟩
  | rightBoth => exact ⟨right, right⟩
  | monoSum =>
    obtain ⟨llow, lhigh⟩ := left
    obtain ⟨rlow, rhigh⟩ := right
    have middle : InRange ((x.left + x.right) / 2) := ⟨by omega, by omega⟩
    rw [ChannelMap.arrange_monoSum]
    exact ⟨middle, middle⟩

/-- The exact values of a slot, each lane's contribution written out (R128, R129). -/
theorem SlotEntry.exact_none_none (e : SlotEntry) : e.exact none none = { left := 0, right := 0 } := rfl

theorem SlotEntry.exact_some_none (e : SlotEntry) (x : SampleSet) :
    e.exact (some x) none =
      { left := halveIf e.halve (e.channelMap.arrange x).left, right := halveIf e.halve (e.channelMap.arrange x).right } :=
  congrArg₂ SampleSet.mk (Int.add_zero _) (Int.add_zero _)

theorem SlotEntry.exact_none_some (e : SlotEntry) (y : SampleSet) : e.exact none (some y) = e.exact (some y) none :=
  congrArg₂ SampleSet.mk (Int.add_comm _ _) (Int.add_comm _ _)

theorem SlotEntry.exact_some_some (e : SlotEntry) (x y : SampleSet) :
    e.exact (some x) (some y) =
      { left := (e.exact (some x) none).left + (e.exact (some y) none).left
        right := (e.exact (some x) none).right + (e.exact (some y) none).right } := by
  rw [SlotEntry.exact_some_none, SlotEntry.exact_some_none]
  rfl

theorem SlotEntry.exact_some_none_inRange (e : SlotEntry) {x : SampleSet} (h : x.InRange) :
    (e.exact (some x) none).InRange := by
  rw [SlotEntry.exact_some_none]
  obtain ⟨left, right⟩ := e.channelMap.arrange_inRange h
  exact ⟨halveIf_inRange _ left, halveIf_inRange _ right⟩

/-- Halving, and a single lane, keep the exact values in range (R129). -/
theorem SlotEntry.exact_inRange (e : SlotEntry) {a b : Option SampleSet} (ha : ∀ x, a = some x → x.InRange)
    (hb : ∀ x, b = some x → x.InRange) (h : e.halve = true ∨ a = none ∨ b = none) : (e.exact a b).InRange := by
  cases a with
  | none =>
    cases b with
    | none =>
      rw [e.exact_none_none]
      decide
    | some y =>
      rw [e.exact_none_some]
      exact e.exact_some_none_inRange (hb y rfl)
  | some x =>
    cases b with
    | none => exact e.exact_some_none_inRange (ha x rfl)
    | some y =>
      have halved : e.halve = true := h.resolve_right fun h => h.elim (Option.some_ne_none _) (Option.some_ne_none _)
      obtain ⟨xleft, xright⟩ := e.channelMap.arrange_inRange (ha x rfl)
      obtain ⟨yleft, yright⟩ := e.channelMap.arrange_inRange (hb y rfl)
      rw [e.exact_some_some, e.exact_some_none, e.exact_some_none, halved]
      exact ⟨halves_inRange xleft yleft, halves_inRange xright yright⟩

theorem SlotEntry.output_of_mute {e : SlotEntry} (h : e.mute = true) (a b : Option SampleSet) :
    e.output a b = { left := 0, right := 0 } := if_pos h

theorem SlotEntry.output_of_notMute {e : SlotEntry} (h : e.mute = false) (a b : Option SampleSet) :
    e.output a b = { left := saturate (e.exact a b).left, right := saturate (e.exact a b).right } :=
  if_neg (Bool.not_eq_true _ ▸ h)

theorem SlotEntry.output_inRange (e : SlotEntry) (a b : Option SampleSet) : (e.output a b).InRange := by
  cases h : e.mute with
  | true =>
    rw [SlotEntry.output_of_mute h]
    exact ⟨⟨by decide, by decide⟩, by decide, by decide⟩
  | false =>
    rw [SlotEntry.output_of_notMute h]
    exact ⟨saturate_inRange _, saturate_inRange _⟩

theorem SlotEntry.clipCount_eq (e : SlotEntry) (a b : Option SampleSet) :
    e.clipCount a b = (if InRange (e.exact a b).left then 0 else 1) + (if InRange (e.exact a b).right then 0 else 1) := by
  unfold SlotEntry.clipCount
  rw [clips_count, clips_count]

/-- Settles O52, from the exact values of a slot (`SlotEntry.exact_some_none`) and what saturation makes of them. -/
theorem slotArithmeticIsExactOrSaturated : Obligations.SlotArithmeticIsExactOrSaturated := by
  unfold Obligations.SlotArithmeticIsExactOrSaturated
  refine ⟨fun e a b ha hb => ⟨e.output_inRange a b, fun h => SlotEntry.output_of_mute h a b, fun h => ?_,
    e.clipCount_eq a b, fun h => ?_⟩, fun e x y h halving => ?_⟩
  · rw [SlotEntry.output_of_notMute h]
    exact ⟨saturate_of_inRange, saturate_of_below, saturate_of_above, saturate_of_inRange, saturate_of_below,
      saturate_of_above⟩
  · obtain ⟨left, right⟩ := e.exact_inRange ha hb h
    rw [e.clipCount_eq, if_pos left, if_pos right]
  · have single : e.exact (some x) none =
        { left := h (e.channelMap.arrange x).left, right := h (e.channelMap.arrange x).right } := by
      rw [e.exact_some_none, halveIf_eq, halveIf_eq, halving]
      cases e.halve <;> rfl
    refine ⟨fun m => ?_, fun m => ?_, fun m => ?_, fun m => ?_, fun m => ?_, e.exact_none_some y, rfl,
      e.exact_some_some x y⟩
    case refine_5 => rw [single, m, ChannelMap.arrange_monoSum]
    all_goals
      rw [single, m]
      rfl

/-! ### The cadence -/

section
variable {fn fd : Nat} {quiet lines : Nat → Nat} {c : Carriage}

theorem Carriage.frames_accumulator (zero : c.accumulator = 0) (n : Nat) :
    (c.frames fn fd quiet lines n).accumulator = n * setsPerCadence fd % fn := by
  induction n with
  | zero => rw [Nat.zero_mul, Nat.zero_mod]; exact zero
  | succ n ih =>
    calc ((c.frames fn fd quiet lines n).accumulator + setsPerCadence fd) % fn
        = (n * setsPerCadence fd % fn + setsPerCadence fd) % fn := by rw [ih]
      _ = (n + 1) * setsPerCadence fd % fn := by rw [Nat.mod_add_mod, Nat.succ_mul]

theorem Carriage.frames_frameCount (n : Nat) :
    (c.frames fn fd quiet lines (n + 1)).frameCount * fn + (c.frames fn fd quiet lines (n + 1)).accumulator =
      (c.frames fn fd quiet lines n).accumulator + setsPerCadence fd :=
  Nat.div_add_mod' _ _

/-- What the frame counts of `r` frames carry: the sets owed over them, up to the change of the accumulator (R101). -/
theorem Carriage.frames_sum (n r : Nat) :
    ((List.range r).map fun i => (c.frames fn fd quiet lines (n + i + 1)).frameCount).sum * fn +
        (c.frames fn fd quiet lines (n + r)).accumulator =
      (c.frames fn fd quiet lines n).accumulator + r * setsPerCadence fd := by
  induction r with
  | zero => simp
  | succ r ih =>
    have last : (c.frames fn fd quiet lines (n + r + 1)).frameCount * fn +
        (c.frames fn fd quiet lines (n + r + 1)).accumulator =
          (c.frames fn fd quiet lines (n + r)).accumulator + setsPerCadence fd := Carriage.frames_frameCount (n + r)
    rw [List.range_succ, List.map_append, List.sum_append, Nat.add_mul, Nat.succ_mul, ← Nat.add_assoc, List.map_singleton,
      List.sum_singleton, ← Nat.add_assoc]
    omega

theorem Carriage.frames_phase (fresh : c.fresh = true) (positive : 0 < cadenceLength fn fd) (i : Nat) :
    (c.frames fn fd quiet lines (i + 1)).phase = i % cadenceLength fn fd := by
  induction i with
  | zero => exact (if_pos fresh).trans (Nat.zero_mod _).symm
  | succ i ih =>
    have next : (c.frames fn fd quiet lines (i + 1 + 1)).phase =
        if cadenceLength fn fd ≤ (c.frames fn fd quiet lines (i + 1)).phase + 1 then 0
        else (c.frames fn fd quiet lines (i + 1)).phase + 1 := rfl
    have below := Nat.mod_lt i positive
    rw [next, ih]
    split
    next wraps =>
      have last : i % cadenceLength fn fd + 1 = cadenceLength fn fd := Nat.le_antisymm below wraps
      rw [← Nat.mod_add_mod, last, Nat.mod_self]
    next stays =>
      rw [← Nat.mod_add_mod, Nat.mod_eq_of_lt (Nat.lt_of_not_le stays)]

end

/-- K cadence frames owe a whole number of sets: Fn divides K × N (R102). -/
theorem cadenceLength_mul (fn fd : Nat) :
    cadenceLength fn fd * setsPerCadence fd = setsPerCadence fd / Nat.gcd (setsPerCadence fd) fn * fn := by
  unfold cadenceLength
  rw [Nat.div_mul_right_comm (Nat.gcd_dvd_right _ _), Nat.div_mul_right_comm (Nat.gcd_dvd_left _ _), Nat.mul_comm]

theorem cadenceLength_pos {fn : Nat} (fd : Nat) (h : 0 < fn) : 0 < cadenceLength fn fd :=
  Nat.div_pos (Nat.gcd_le_right _ h) (Nat.gcd_pos_of_pos_right _ h)

theorem cadence_returns (fn fd m : Nat) : m * cadenceLength fn fd * setsPerCadence fd % fn = 0 := by
  rw [Nat.mul_assoc, cadenceLength_mul, ← Nat.mul_assoc, Nat.mul_mod_left]

/-- Settles O45: over K frames the accumulator returns to 0 (`cadence_returns`), so the frame counts carry what is owed. -/
theorem cadenceCarriesExactly : Obligations.CadenceCarriesExactly := by
  unfold Obligations.CadenceCarriesExactly
  intro fn fd K quiet lines c low _ _ hK _ fresh zero m
  obtain rfl : K = cadenceLength fn fd := hK
  have returned : ∀ n, (c.frames fn fd quiet lines (n * cadenceLength fn fd)).accumulator = 0 := fun n => by
    rw [Carriage.frames_accumulator zero, cadence_returns]
  refine ⟨returned m, fun i => Carriage.frames_phase fresh (cadenceLength_pos fd (by omega)) i, ?_⟩
  have sum := Carriage.frames_sum (fn := fn) (fd := fd) (quiet := quiet) (lines := lines) (c := c)
    (m * cadenceLength fn fd) (cadenceLength fn fd)
  rw [← Nat.succ_mul, returned, returned, Nat.zero_add, Nat.add_zero] at sum
  exact sum.trans (Nat.mul_comm _ _)

/-! ### Fields and samples in words -/

theorem dataByte_ofNat {n : Nat} (h : n < 1024) : dataByte (BitVec.ofNat 10 n) = n % 256 := by
  rw [dataByte, BitVec.toNat_ofNat, Nat.mod_eq_of_lt h]

theorem wordFlag_ofNat {n : Nat} (h : n < 1024) : wordFlag (BitVec.ofNat 10 n) = n / 256 % 2 := by
  rw [wordFlag, BitVec.toNat_ofNat, Nat.mod_eq_of_lt h]

theorem bytes_eq {v : Nat} (h : v ≤ 16777215) : v % 256 + 256 * (v / 256 % 256) + 65536 * (v / 65536 % 256) = v := by omega

theorem readField_writeField {v : Nat} (h : v ≤ 16777215) :
    readField (BitVec.ofNat 10 (v % 256)) (BitVec.ofNat 10 (v / 256 % 256)) (BitVec.ofNat 10 (v / 65536 % 256)) = v := by
  unfold readField
  rw [dataByte_ofNat (by omega), dataByte_ofNat (by omega), dataByte_ofNat (by omega), Nat.mod_mod, Nat.mod_mod, Nat.mod_mod,
    bytes_eq h]

theorem readFields_writeFields {fields : List Nat} (h : ∀ v ∈ fields, v ≤ 16777215) :
    readFields (writeFields fields) = fields := by
  induction fields with
  | nil => rfl
  | cons v rest ih =>
    exact congrArg₂ List.cons (readField_writeField (h v List.mem_cons_self))
      (ih fun u hu => h u (List.mem_cons_of_mem v hu))

theorem writeFields_length (fields : List Nat) : (writeFields fields).length = 3 * fields.length := by
  induction fields with
  | nil => rfl
  | cons v rest ih =>
    show (writeFields rest).length + 3 = 3 * (rest.length + 1)
    omega

theorem writeField_lt {v : Nat} {w : FeedWord} (h : w ∈ writeField v) : w.toNat < 256 := by
  obtain ⟨n, rfl⟩ : ∃ n, w = BitVec.ofNat 10 (n % 256) := by
    simp only [writeField, List.mem_cons, List.not_mem_nil, or_false] at h
    rcases h with h | h | h <;> exact ⟨_, h⟩
  rw [BitVec.toNat_ofNat]
  omega

theorem codeOfSample_lt {v : Int} (h : InRange v) : codeOfSample v ≤ 16777215 := by
  obtain ⟨low, high⟩ := h
  unfold codeOfSample
  split <;> omega

theorem sampleOfCode_codeOfSample {v : Int} (h : InRange v) : sampleOfCode (codeOfSample v) = v := by
  obtain ⟨low, high⟩ := h
  unfold sampleOfCode codeOfSample
  split <;> split <;> omega

/-- A sample that the part writes passes its check, with its own value (R12 to R14). -/
theorem readSample_writeSample {v : Int} (h : InRange v) {low middle high : FeedWord}
    (words : writeSample v = [low, middle, high]) : readSample low middle high = { value := v, passes := true } := by
  have code := codeOfSample_lt h
  obtain ⟨rfl, rfl, rfl⟩ : BitVec.ofNat 10 (codeOfSample v % 256) = low ∧
      BitVec.ofNat 10 (codeOfSample v / 256 % 256) = middle ∧
      BitVec.ofNat 10 (codeOfSample v / 65536 % 256 + 256 * (onesOfCode (codeOfSample v) % 2)) = high := by
    simpa [writeSample] using words
  unfold readSample
  generalize hn : codeOfSample v = n at *
  have value : dataByte (BitVec.ofNat 10 (n % 256)) + 256 * dataByte (BitVec.ofNat 10 (n / 256 % 256)) +
      65536 * dataByte (BitVec.ofNat 10 (n / 65536 % 256 + 256 * (onesOfCode n % 2))) = n := by
    rw [dataByte_ofNat (by omega), dataByte_ofNat (by omega), dataByte_ofNat (by omega)]
    omega
  have flag : wordFlag (BitVec.ofNat 10 (n / 65536 % 256 + 256 * (onesOfCode n % 2))) = onesOfCode n % 2 := by
    rw [wordFlag_ofNat (by omega)]
    omega
  have even : (onesOfCode n + onesOfCode n % 2) % 2 = 0 := by omega
  simp only [value, flag, even, beq_self_eq_true]
  rw [← hn, sampleOfCode_codeOfSample h]

/-! ### Carriage packets -/

/-- The words of the sets that a carriage packet carries (R11). -/
abbrev setWords (sets : List SampleSet) : List FeedWord :=
  sets.flatMap fun x => writeSample x.left ++ writeSample x.right

theorem setWords_length (sets : List SampleSet) : (setWords sets).length = 6 * sets.length := by
  induction sets with
  | nil => rfl
  | cons x rest ih =>
    show (setWords rest).length + 6 = 6 * (rest.length + 1)
    omega

theorem readSets_setWords {sets : List SampleSet} (h : ∀ x ∈ sets, x.InRange) :
    readSets (setWords sets) = sets.map fun x =>
      { left := { value := x.left, passes := true }, right := { value := x.right, passes := true } } := by
  induction sets with
  | nil => rfl
  | cons x rest ih =>
    obtain ⟨left, right⟩ := h x List.mem_cons_self
    exact congrArg₂ List.cons (congrArg₂ CheckedSet.mk (readSample_writeSample left rfl) (readSample_writeSample right rfl))
      (ih fun y hy => h y (List.mem_cons_of_mem x hy))

section
variable {slot : Slot} {count phase : Nat}

theorem headWord_toNat (hc : count < 8) (hp : phase < 16) :
    (headWord slot count phase).toNat = slot.val + 8 * count + 64 * phase := by
  have := slot.isLt
  rw [headWord, BitVec.toNat_ofNat, Nat.mod_eq_of_lt (by omega)]

theorem headSlot_headWord (hc : count < 8) (hp : phase < 16) : headSlot (headWord slot count phase) = slot := by
  have := slot.isLt
  apply Fin.ext
  rw [headSlot_val, headWord_toNat hc hp]
  omega

theorem headCount_headWord (hc : count < 8) (hp : phase < 16) : headCount (headWord slot count phase) = count := by
  have := slot.isLt
  rw [headCount, headWord_toNat hc hp]
  omega

theorem headPhase_headWord (hc : count < 8) (hp : phase < 16) : headPhase (headWord slot count phase) = phase := by
  have := slot.isLt
  rw [headPhase, headWord_toNat hc hp]
  omega

end

theorem carriagePacket_payload (slot : Slot) (phase : Nat) (sets : List SampleSet) :
    (carriagePacket slot phase sets).payload = headWord slot sets.length phase :: setWords sets := rfl

theorem carriagePacket_span (slot : Slot) (phase : Nat) (sets : List SampleSet) :
    (carriagePacket slot phase sets).span = 1 + 6 * sets.length := by
  rw [Packet.span, carriagePacket_payload, List.length_cons, setWords_length, Nat.add_comm]

theorem makePacket_good {kind : BitVec 8} {payload : List FeedWord} (h : kind = kindCarriage → carriageShape payload = true) :
    (makePacket kind payload).good = true := by
  unfold Packet.good makePacket
  by_cases hk : kind = kindCarriage
  · simp [h hk]
  · simp [hk]

/-- Settles O44: the head word (`headWord_toNat`), the samples (`readSample_writeSample`) and the fields of what the part
emits read back. -/
theorem emittedPayloadsReadBack : Obligations.EmittedPayloadsReadBack := by
  unfold Obligations.EmittedPayloadsReadBack
  refine ⟨fun slot phase sets hp hc hsets => ⟨makePacket_good fun _ => ?_, carriagePacket_span slot phase sets, ?_⟩,
    fun fields h => ⟨readFields_writeFields h, writeFields_length fields, fun w hw => ?_⟩⟩
  · have span : (headWord slot sets.length phase :: setWords sets).length = 1 + 6 * sets.length :=
      carriagePacket_span slot phase sets
    unfold carriageShape
    simp only [span, headCount_headWord (slot := slot) (Nat.lt_of_le_of_lt hc (by decide)) hp, hc, decide_true,
      beq_self_eq_true, Bool.and_self]
  · have hcount : sets.length < 8 := Nat.lt_of_le_of_lt hc (by decide)
    rw [carriagePacket_payload, readCarriage, headSlot_headWord hcount hp, headPhase_headWord hcount hp,
      readSets_setWords hsets]
  · obtain ⟨v, -, hv⟩ := List.mem_flatMap.mp hw
    exact writeField_lt hv

end Sys2Proof.Machine
end

section
/-! SUPPORT. The reads and the writes of the control channel (R19, R57, R74, R123, R20, R153), executed at once. -/

namespace Sys2Proof.Machine

/-! ### A row that executes at once -/

section
variable {c : Instr} {tag : Field} {fields : List Nat} {op : Op} {s : State}

/-- A command row that finds no command waiting and reply room answers what its decoded command comes to (R151). -/
theorem exec_of_answer (ready : s.Ready) (row : exec c s = .next (s.submit (s.ownCommand (tag.toNat :: fields))))
    (decoded : (s.ownCommand (tag.toNat :: fields)).decode = .ok op) {t : State} {code : OutcomeCode} {results : List Nat}
    (performed : s.perform op = { state := t, code := code, results := results })
    (address : t.deviceAddress = s.deviceAddress) : exec c s = .next (t.answered tag code.code results) := by
  have judged : s.judge (s.ownCommand (tag.toNat :: fields)) = { state := t, code := code, results := results } := by
    rw [State.judge, decoded]
    exact performed
  exact row.trans (congrArg Host.Outcome.next (State.submit_answered ready tag fields judged address))

theorem exec_of_refuse {code : OutcomeCode} (ready : s.Ready)
    (row : exec c s = .next (s.submit (s.ownCommand (tag.toNat :: fields))))
    (decoded : (s.ownCommand (tag.toNat :: fields)).decode = .ok op) (performed : s.perform op = refuse s code) :
    exec c s = .next (s.answered tag code.code []) :=
  exec_of_answer ready row decoded performed rfl

theorem exec_of_found {results : List Nat} (ready : s.Ready)
    (row : exec c s = .next (s.submit (s.ownCommand (tag.toNat :: fields))))
    (decoded : (s.ownCommand (tag.toNat :: fields)).decode = .ok op) (performed : s.perform op = found s results) :
    exec c s = .next (s.answered tag 0 results) :=
  exec_of_answer ready row decoded performed rfl

theorem exec_of_done {t : State} (ready : s.Ready)
    (row : exec c s = .next (s.submit (s.ownCommand (tag.toNat :: fields))))
    (decoded : (s.ownCommand (tag.toNat :: fields)).decode = .ok op) (performed : s.perform op = done t)
    (address : t.deviceAddress = s.deviceAddress) : exec c s = .next (t.answered tag 0 []) :=
  exec_of_answer ready row decoded performed address

/-- A write answered DONE, or ADJUSTED when a field was clamped. -/
theorem exec_of_stored {t : State} {adjusted : Bool} {results : List Nat} {code : Nat} (ready : s.Ready)
    (row : exec c s = .next (s.submit (s.ownCommand (tag.toNat :: fields))))
    (decoded : (s.ownCommand (tag.toNat :: fields)).decode = .ok op) (performed : s.perform op = stored t adjusted results)
    (address : t.deviceAddress = s.deviceAddress) (adjusts : code = if adjusted then 1 else 0) :
    exec c s = .next (t.answered tag code results) := by
  rw [exec_of_answer ready row decoded performed address, adjusts]
  cases adjusted <;> rfl

end

/-! ### Reads -/

section
variable {s : State} {i : Nat}

theorem State.readRule_at (p : Feed) (e : RuleIndex) (h : i = 16 * p.val + e.val) :
    s.readRule i = found s s.rules[p][e].readFields := by rw [State.readRule, ruleIndex?_val p e h]

theorem State.readRule_outside (h : 128 ≤ i) : s.readRule i = refuse s .badIndex := by
  rw [State.readRule, ruleIndex?_outside h]

theorem State.readLane_at (l : LaneId) (h : i = l.val) : s.readLane i = found s (s.lanes[l].readFields s.regulators[l]) := by
  rw [State.readLane, index?_val l h]

theorem State.readLane_outside (h : 32 ≤ i) : s.readLane i = refuse s .badIndex := by
  rw [State.readLane, index?_outside h]

theorem State.readRouteShadow_at (p : Feed) (x : Slot) (h : i = 8 * p.val + x.val) :
    s.readRouteShadow i = found s (s.routes[p].shadow[x].writeFields ++ [yesNo s.routes[p].swapPending]) := by
  rw [State.readRouteShadow, slotIndex?_val p x h]

theorem State.readRouteShadow_outside (h : 64 ≤ i) : s.readRouteShadow i = refuse s .badIndex := by
  rw [State.readRouteShadow, slotIndex?_outside h]

theorem State.readRouteLive_at (p : Feed) (x : Slot) (h : i = 8 * p.val + x.val) :
    s.readRouteLive i = found s (s.routes[p].live[x].writeFields ++
      [s.routes[p].clips[x], yesNo s.routes[p].seenLast[x], yesNo s.routes[p].swapPending]) := by
  rw [State.readRouteLive, slotIndex?_val p x h]

theorem State.readRouteLive_outside (h : 64 ≤ i) : s.readRouteLive i = refuse s .badIndex := by
  rw [State.readRouteLive, slotIndex?_outside h]

theorem State.readStream_at (n : Fin 48) (h : i = n.val) :
    s.readStream i = found s (streamFields s.streams[n] s.tableCount n.val) := by
  rw [State.readStream, index?_val n h]

theorem State.readStream_outside (h : 48 ≤ i) : s.readStream i = refuse s .badIndex := by
  rw [State.readStream, index?_outside h]

theorem State.readPath_at (p : Feed) (h : i = p.val) :
    s.readPath i = found s (s.paths[p].readFields s.ports[p] s.carriage[p]) := by
  rw [State.readPath, index?_val p h]

theorem State.readPath_outside (h : 8 ≤ i) : s.readPath i = refuse s .badIndex := by
  rw [State.readPath, index?_outside h]

theorem State.readProbe_at (l : LaneId) (h : i = l.val) :
    s.readProbe i = found s (probeFields s.probe.results[l] s.probe.run) := by
  rw [State.readProbe, index?_val l h]

theorem State.readProbe_outside (h : 32 ≤ i) : s.readProbe i = refuse s .badIndex := by
  rw [State.readProbe, index?_outside h]

theorem State.readSettings_at (h : i = 0) :
    s.readSettings i = found s (s.settings.writeFields ++ [s.deviceAddress.val]) := if_pos h

theorem State.readSettings_outside (h : i ≠ 0) : s.readSettings i = refuse s .badIndex := if_neg h

end

/-- A probe runs while it is on some lane (09, section 9.1). -/
theorem ProbeRun.lane?_isSome (r : ProbeRun) : r.lane?.isSome = (r != .stopped) := by cases r <;> rfl

/-- Settles O31: each read at an index of its table and at one outside it. -/
theorem readsAnswerEveryField : Obligations.ReadsAnswerEveryField := by
  unfold Obligations.ReadsAnswerEveryField
  refine ⟨fun s tag index ready => ⟨fun p e x h hx => ?_, fun h => ?_, fun l x r h hx hr => ?_, fun h => ?_⟩,
    fun s tag index ready => ⟨fun p x e h he => ?_, fun p x e h he => ?_, fun h => ⟨?_, ?_⟩, fun i e h he => ?_,
      fun i h he => ?_, fun h => ?_⟩,
    fun s tag index ready => ⟨fun p x h hx => ?_, fun h => ?_, fun l r h hr => ?_, fun h => ?_, fun h => ?_, fun h => ?_⟩⟩
  · subst hx
    exact exec_of_found ready rfl rfl (State.readRule_at p e h)
  · exact exec_of_refuse (code := .badIndex) ready rfl rfl (State.readRule_outside h)
  · subst hx hr
    exact exec_of_found ready rfl rfl (State.readLane_at l h)
  · exact exec_of_refuse (code := .badIndex) ready rfl rfl (State.readLane_outside h)
  · subst he
    exact exec_of_found ready rfl rfl (State.readRouteShadow_at p x h)
  · subst he
    exact exec_of_found ready rfl rfl (State.readRouteLive_at p x h)
  · exact exec_of_refuse (code := .badIndex) ready rfl rfl (State.readRouteShadow_outside h)
  · exact exec_of_refuse (code := .badIndex) ready rfl rfl (State.readRouteLive_outside h)
  · exact exec_of_found ready rfl rfl ((State.readStream_at i h).trans (by rw [he]; rfl))
  · exact exec_of_found ready rfl rfl ((State.readStream_at i h).trans (by rw [he]; rfl))
  · exact exec_of_refuse (code := .badIndex) ready rfl rfl (State.readStream_outside h)
  · subst hx
    exact exec_of_found ready rfl rfl (State.readPath_at p h)
  · exact exec_of_refuse (code := .badIndex) ready rfl rfl (State.readPath_outside h)
  · subst hr
    rw [← ProbeRun.lane?_isSome]
    exact exec_of_found ready rfl rfl (State.readProbe_at l h)
  · exact exec_of_refuse (code := .badIndex) ready rfl rfl (State.readProbe_outside h)
  · exact exec_of_found ready rfl rfl (State.readSettings_at h)
  · exact exec_of_refuse (code := .badIndex) ready rfl rfl (State.readSettings_outside h)

/-! ### The judging of fields -/

/-- The outcome of a write with one clamped field (00_scope.md, Clamped). -/
theorem outside_iff (lo hi v : Nat) : outside lo hi v = true ↔ ¬(lo ≤ v ∧ v ≤ hi) := by
  simp only [outside, Bool.or_eq_true, decide_eq_true_eq]
  omega

theorem outside_code (lo hi v : Nat) : (if lo ≤ v ∧ v ≤ hi then 0 else 1) = if outside lo hi v then 1 else 0 := by
  simp only [outside_iff, ite_not]

theorem judgeRule_of_codes {w : RuleWrite} {x : RuleEntry} (en : w.enabled = yesNo x.enabled)
    (mf : w.matchField = x.matchField.code) (cm : w.compare = x.compare.code) (va : w.value = x.value) (byte : x.value ≤ 255)
    (jo : w.joined = x.joined.toNat) (so : w.source = x.source.val) (st : w.strip = yesNo x.strip)
    (ta : w.take = yesNo x.take) (wm : w.watchMode = x.watchMode.code) :
    judgeRule w = some { x with watchLimit := max 1 (min 4095 w.watchLimit), watchState := .armed, watchCount := 0 } := by
  have value : index? 256 w.value = some ⟨x.value, Nat.lt_succ_of_le byte⟩ := index?_val _ va
  have joined : index? 65536 w.joined = some ⟨x.joined.toNat, x.joined.isLt⟩ := index?_val _ jo
  simp only [judgeRule, yesNo?_code _ en, matchField?_code _ mf, compare?_code _ cm, value, joined, index?_val _ so,
    yesNo?_code _ st, yesNo?_code _ ta, watchMode?_code _ wm, Option.bind_eq_bind, Option.bind_some, clampTo,
    BitVec.ofNat_toNat, BitVec.setWidth_eq]

theorem judgeRule_outside {w : RuleWrite} (h : 2 ≤ w.enabled ∨ 3 ≤ w.matchField ∨ 2 ≤ w.compare ∨ 256 ≤ w.value ∨
    65536 ≤ w.joined ∨ 16 ≤ w.source ∨ 2 ≤ w.strip ∨ 2 ≤ w.take ∨ 3 ≤ w.watchMode) : judgeRule w = none := by
  rcases h with h | h | h | h | h | h | h | h | h
  case inl => simp [judgeRule, yesNo?_outside h]
  case inr.inl => simp [judgeRule, matchField?_outside h]
  case inr.inr.inl => simp [judgeRule, compare?_outside h]
  case inr.inr.inr.inl => simp [judgeRule, index?_outside h]
  case inr.inr.inr.inr.inl => simp [judgeRule, index?_outside h]
  case inr.inr.inr.inr.inr.inl => simp [judgeRule, index?_outside h]
  case inr.inr.inr.inr.inr.inr.inl => simp [judgeRule, yesNo?_outside h]
  case inr.inr.inr.inr.inr.inr.inr.inl => simp [judgeRule, yesNo?_outside h]
  case inr.inr.inr.inr.inr.inr.inr.inr => simp [judgeRule, watchMode?_outside h]

theorem judgeLane_of_codes {w : LaneWrite} {d : LaneDescriptor} (pr : w.primary = sourceCode d.primary)
    (ba : w.backup = sourceCode d.backup) (dr : w.drain = d.drain.val) (tg : d.target = max 16 (min 1984 w.target))
    (wi : d.window = max 4 (min 256 w.window)) (il : w.invertLeft = yesNo d.invertLeft)
    (ir : w.invertRight = yesNo d.invertRight) (au : w.autoReturn = yesNo d.autoReturn)
    (sources : d.backup.isSome → d.primary.isSome ∧ d.primary ≠ d.backup) : judgeLane w = some d := by
  have accepted : ¬(d.backup.isSome = true ∧ (d.primary = d.backup ∨ d.primary = none)) := fun ⟨backup, same⟩ => by
    obtain ⟨present, distinct⟩ := sources backup
    exact same.elim distinct (Option.isSome_iff_ne_none.mp present)
  simp only [judgeLane, source?_code _ pr, source?_code _ ba, index?_val _ dr, yesNo?_code _ il, yesNo?_code _ ir,
    yesNo?_code _ au, Option.bind_eq_bind, Option.bind_some, if_neg accepted, clampTo, ← tg, ← wi]

/-- A backup field that is no 255 and is accepted names a source. -/
theorem source?_isSome {v : Nat} {x : Option Source} (present : v ≠ 255) (h : source? v = some x) : x.isSome = true := by
  unfold source? at h
  rw [if_neg present] at h
  split at h
  · cases h
    rfl
  · cases h

theorem judgeLane_outside {w : LaneWrite} (h : (w.primary ≠ 255 ∧ 64 ≤ w.primary) ∨ (w.backup ≠ 255 ∧ 64 ≤ w.backup) ∨
    8 ≤ w.drain ∨ 2 ≤ w.invertLeft ∨ 2 ≤ w.invertRight ∨ 2 ≤ w.autoReturn ∨
    (w.backup ≠ 255 ∧ (w.primary = w.backup ∨ w.primary = 255))) : judgeLane w = none := by
  rcases h with ⟨h, h'⟩ | ⟨h, h'⟩ | h | h | h | h | ⟨present, same⟩
  case inl => simp [judgeLane, source?_outside h h']
  case inr.inl => simp [judgeLane, source?_outside h h']
  case inr.inr.inl => simp [judgeLane, index?_outside h]
  case inr.inr.inr.inl => simp [judgeLane, yesNo?_outside h]
  case inr.inr.inr.inr.inl => simp [judgeLane, yesNo?_outside h]
  case inr.inr.inr.inr.inr.inl => simp [judgeLane, yesNo?_outside h]
  case inr.inr.inr.inr.inr.inr =>
    refine Option.eq_none_iff_forall_ne_some.mpr fun d hd => ?_
    simp only [judgeLane, Option.bind_eq_bind, Option.bind_eq_some_iff] at hd
    obtain ⟨primary, hp, backup, hb, drain, -, il, -, ir, -, au, -, accepted⟩ := hd
    have clash : backup.isSome = true ∧ (primary = backup ∨ primary = none) := by
      refine ⟨source?_isSome present hb, same.imp (fun h => ?_) fun h => ?_⟩
      · rw [h] at hp
        exact Option.some.inj (hp.symm.trans hb)
      · rw [h] at hp
        exact (Option.some.inj hp).symm
    rw [if_pos clash] at accepted
    cases accepted

theorem judgeSlot_of_codes {w : SlotWrite} {e : SlotEntry} (ar : w.armed = yesNo e.armed) (la : w.laneA = laneCode e.laneA)
    (lb : w.laneB = laneCode e.laneB) (cm : w.channelMap = e.channelMap.code) (ha : w.halve = yesNo e.halve)
    (mu : w.mute = yesNo e.mute) (po : w.policy = e.policy.code) : judgeSlot w = some e := by
  simp only [judgeSlot, yesNo?_code _ ar, laneRef?_code _ la, laneRef?_code _ lb, channelMap?_code _ cm, yesNo?_code _ ha,
    yesNo?_code _ mu, policy?_code _ po, Option.bind_eq_bind, Option.bind_some]

theorem judgeSlot_outside {w : SlotWrite} (h : 2 ≤ w.armed ∨ (32 ≤ w.laneA ∧ w.laneA ≠ 255) ∨
    (32 ≤ w.laneB ∧ w.laneB ≠ 255) ∨ 5 ≤ w.channelMap ∨ 2 ≤ w.halve ∨ 2 ≤ w.mute ∨ 2 ≤ w.policy) : judgeSlot w = none := by
  rcases h with h | ⟨h, h'⟩ | ⟨h, h'⟩ | h | h | h | h
  case inl => simp [judgeSlot, yesNo?_outside h]
  case inr.inl => simp [judgeSlot, laneRef?_outside h h']
  case inr.inr.inl => simp [judgeSlot, laneRef?_outside h h']
  case inr.inr.inr.inl => simp [judgeSlot, channelMap?_outside h]
  case inr.inr.inr.inr.inl => simp [judgeSlot, yesNo?_outside h]
  case inr.inr.inr.inr.inr.inl => simp [judgeSlot, yesNo?_outside h]
  case inr.inr.inr.inr.inr.inr => simp [judgeSlot, policy?_outside h]

theorem judgePath_of_codes {w : PathWrite} {m : Mode} (mo : w.mode = m.code) (low : 12000 ≤ w.fn) (high : w.fn ≤ 120000)
    (fd : w.fd = 1000 ∨ w.fd = 1001) (cadence : cadenceLength w.fn w.fd ≤ 16) :
    judgePath w = some { mode := m, fn := w.fn, fd := w.fd, quiet := min 15 w.quiet, room := max 128 (min 1023 w.room),
                         fallback := max 16 (min 2047 w.fallback) } := by
  have accepted : 12000 ≤ w.fn ∧ w.fn ≤ 120000 ∧ (w.fd = 1000 ∨ w.fd = 1001) ∧ cadenceLength w.fn w.fd ≤ 16 :=
    ⟨low, high, fd, cadence⟩
  simp only [judgePath, mode?_code _ mo, Option.bind_eq_bind, Option.bind_some, if_pos accepted, clampTo, Nat.zero_max]

theorem judgePath_outside {w : PathWrite} (h : 2 ≤ w.mode ∨ w.fn < 12000 ∨ 120000 < w.fn ∨ (w.fd ≠ 1000 ∧ w.fd ≠ 1001) ∨
    16 < cadenceLength w.fn w.fd) : judgePath w = none := by
  rcases h with h | h
  · simp [judgePath, mode?_outside h]
  · have refused : ¬(12000 ≤ w.fn ∧ w.fn ≤ 120000 ∧ (w.fd = 1000 ∨ w.fd = 1001) ∧ cadenceLength w.fn w.fd ≤ 16) := by
      omega
    simp [judgePath, refused]

theorem judgeSettings_of_codes {w : SettingsWrite} {x : Settings} (cf : w.controlFeed = x.controlFeed.val)
    (rf : w.replyFeed = x.replyFeed.val) (sw : x.sweepInterval = max 1 (min 255 w.sweepInterval))
    (be : w.beaconEnabled = yesNo x.beaconEnabled) : judgeSettings w = some x := by
  simp only [judgeSettings, index?_val _ cf, index?_val _ rf, yesNo?_code _ be, Option.bind_eq_bind, Option.bind_some,
    clampTo, ← sw]

theorem judgeSettings_outside {w : SettingsWrite} (h : 8 ≤ w.controlFeed ∨ 8 ≤ w.replyFeed ∨ 2 ≤ w.beaconEnabled) :
    judgeSettings w = none := by
  rcases h with h | h | h
  · simp [judgeSettings, index?_outside h]
  · simp [judgeSettings, index?_outside h]
  · simp [judgeSettings, yesNo?_outside h]

/-! ### Writes -/

section
variable {s : State} {i : Nat}

theorem State.writeRule_some (p : Feed) (e : RuleIndex) {w : RuleWrite} {x : RuleEntry} (h : i = 16 * p.val + e.val)
    (judged : judgeRule w = some x) :
    s.writeRule i w = stored (s.setRule p e x) (outside 1 4095 w.watchLimit) x.writeFields := by
  simp only [State.writeRule, ruleIndex?_val p e h, judged]

theorem ruleIndex?_inside (h : i < 128) : ruleIndex? i = some (Fin.ofNat 8 (i / 16), Fin.ofNat 16 i) := if_pos h

theorem slotIndex?_inside (h : i < 64) : slotIndex? i = some (Fin.ofNat 8 (i / 8), Fin.ofNat 8 i) := if_pos h

theorem index?_inside {n : Nat} (h : i < n) : index? n i = some ⟨i, h⟩ := dif_pos h

theorem State.writeRule_none {w : RuleWrite} (h : i < 128) (judged : judgeRule w = none) :
    s.writeRule i w = refuse s .badValue := by
  simp only [State.writeRule, ruleIndex?_inside h, judged]

theorem State.writeRule_outside {w : RuleWrite} (h : 128 ≤ i) : s.writeRule i w = refuse s .badIndex := by
  simp only [State.writeRule, ruleIndex?_outside h]

theorem State.laneInUse_iff (l : LaneId) (drain : Feed) :
    s.laneInUse l drain = true ↔ s.lanes[l].drain ≠ drain ∧ ∃ f : Feed, f ≠ drain ∧ s.routes[f].names l = true := by
  simp [State.laneInUse]

theorem State.writeLane_some (l : LaneId) {w : LaneWrite} {d : LaneDescriptor} (h : i = l.val)
    (judged : judgeLane w = some d) :
    s.writeLane i w = if s.laneInUse l d.drain then refuse s .laneInUse
      else stored (s.storeDescriptor l d) (outside 16 1984 w.target || outside 4 256 w.window)
        (s.lanes[l].withDescriptor d).writeFields := by
  simp only [State.writeLane, index?_val l h, judged]

theorem State.writeLane_none {w : LaneWrite} (h : i < 32) (judged : judgeLane w = none) :
    s.writeLane i w = refuse s .badValue := by
  simp only [State.writeLane, index?_inside h, judged]

theorem State.writeLane_outside {w : LaneWrite} (h : 32 ≤ i) : s.writeLane i w = refuse s .badIndex := by
  simp only [State.writeLane, index?_outside h]

theorem State.drainedElsewhere_iff (p : Feed) (x : Option LaneId) :
    s.drainedElsewhere p x = true ↔ ∃ n : LaneId, x = some n ∧ s.lanes[n].drain ≠ p := by
  cases x <;> simp [State.drainedElsewhere]

theorem SlotEntry.names_iff (e : SlotEntry) (l : LaneId) : e.names l = true ↔ e.laneA = some l ∨ e.laneB = some l := by
  simp [SlotEntry.names]

/-- The conflict of R123, step 4: the entry names a lane that drains to another feed. -/
theorem State.conflict_iff (p : Feed) (e : SlotEntry) :
    (s.drainedElsewhere p e.laneA || s.drainedElsewhere p e.laneB) = true ↔
      ∃ n : LaneId, e.names n = true ∧ s.lanes[n].drain ≠ p := by
  simp only [Bool.or_eq_true, State.drainedElsewhere_iff, SlotEntry.names_iff, or_and_right, exists_or]

theorem State.writeRouteShadow_some (p : Feed) (x : Slot) {w : SlotWrite} {e : SlotEntry} (h : i = 8 * p.val + x.val)
    (judged : judgeSlot w = some e) :
    s.writeRouteShadow i w = if s.routes[p].swapPending then refuse s .pending
      else if s.drainedElsewhere p e.laneA || s.drainedElsewhere p e.laneB then refuse s .routeConflict
      else stored (s.setRoute p { s.routes[p] with shadow := s.routes[p].shadow.set x e }) false e.writeFields := by
  simp only [State.writeRouteShadow, slotIndex?_val p x h, judged]

theorem State.writeRouteShadow_none {w : SlotWrite} (h : i < 64) (judged : judgeSlot w = none) :
    s.writeRouteShadow i w = refuse s .badValue := by
  simp only [State.writeRouteShadow, slotIndex?_inside h, judged]

theorem State.writeRouteShadow_outside {w : SlotWrite} (h : 64 ≤ i) : s.writeRouteShadow i w = refuse s .badIndex := by
  simp only [State.writeRouteShadow, slotIndex?_outside h]

theorem State.writePath_some (p : Feed) {w : PathWrite} {x : PathSettings} (h : i = p.val) (judged : judgePath w = some x) :
    s.writePath i w = stored { s with
        paths := s.paths.set p (s.paths[p].withSettings x)
        carriage := if x.fn = s.paths[p].fn ∧ x.fd = s.paths[p].fd then s.carriage
          else s.carriage.set p s.carriage[p].rateChange }
      (outside 0 15 w.quiet || outside 128 1023 w.room || outside 16 2047 w.fallback)
      (s.paths[p].withSettings x).writeFields := by
  simp only [State.writePath, index?_val p h, judged]
  split <;> rfl

theorem State.writePath_none {w : PathWrite} (h : i < 8) (judged : judgePath w = none) :
    s.writePath i w = refuse s .badValue := by
  simp only [State.writePath, index?_inside h, judged]

theorem State.writePath_outside {w : PathWrite} (h : 8 ≤ i) : s.writePath i w = refuse s .badIndex := by
  simp only [State.writePath, index?_outside h]

theorem State.writeSettings_some {w : SettingsWrite} {x : Settings} (h : i = 0) (judged : judgeSettings w = some x) :
    s.writeSettings i w = stored { s with settings := x, beaconPending := s.beaconPending && x.beaconEnabled }
      (outside 1 255 w.sweepInterval) x.writeFields := by
  simp only [State.writeSettings, if_pos h, judged]

theorem State.writeSettings_none {w : SettingsWrite} (h : i = 0) (judged : judgeSettings w = none) :
    s.writeSettings i w = refuse s .badValue := by
  simp only [State.writeSettings, if_pos h, judged]

theorem State.writeSettings_outside {w : SettingsWrite} (h : i ≠ 0) : s.writeSettings i w = refuse s .badIndex := if_neg h

end

/-- Settles O32, by `judgeRule_of_codes` and `judgeRule_outside`. -/
theorem ruleWriteJudgedWhole : Obligations.RuleWriteJudgedWhole := by
  unfold Obligations.RuleWriteJudgedWhole
  intro s tag index en mf cm va jo so st ta wm wl ready
  refine ⟨fun p e x y h hen hmf hcm hva byte hjo hso hst hta hwm hy => ?_, fun h refused => ?_, fun h => ?_⟩
  · subst hy
    exact exec_of_stored ready rfl rfl
      (State.writeRule_some p e h (judgeRule_of_codes hen hmf hcm hva byte hjo hso hst hta hwm)) rfl (outside_code 1 4095 _)
  · exact exec_of_refuse (code := .badValue) ready rfl rfl (State.writeRule_none h (judgeRule_outside refused))
  · exact exec_of_refuse (code := .badIndex) ready rfl rfl (State.writeRule_outside h)

/-- Settles O34, by the four steps of `State.writeRouteShadow_some` and `State.conflict_iff`. -/
theorem routeShadowWriteJudgedInOrder : Obligations.RouteShadowWriteJudgedInOrder := by
  unfold Obligations.RouteShadowWriteJudgedInOrder
  intro s tag index ar la lb cm ha mu po ready
  refine ⟨fun p x e h har hla hlb hcm hha hmu hpo => ?_, fun h refused => ?_, fun h => ?_⟩
  · have performed := State.writeRouteShadow_some (s := s) p x h
      (judgeSlot_of_codes (w := ⟨ar.toNat, la.toNat, lb.toNat, cm.toNat, ha.toNat, mu.toNat, po.toNat⟩) har hla hlb hcm hha
        hmu hpo)
    refine ⟨fun pending => ?_, fun quiet conflict => ?_, fun quiet agreed => ?_⟩
    · rw [if_pos pending] at performed
      exact exec_of_refuse (code := .pending) ready rfl rfl performed
    · rw [if_neg (ne_true_of_eq_false quiet), if_pos ((State.conflict_iff p e).mpr conflict)] at performed
      exact exec_of_refuse (code := .routeConflict) ready rfl rfl performed
    · have noConflict : ¬(s.drainedElsewhere p e.laneA || s.drainedElsewhere p e.laneB) = true := fun conflict => by
        obtain ⟨n, names, drain⟩ := (State.conflict_iff p e).mp conflict
        exact drain (agreed n names)
      rw [if_neg (ne_true_of_eq_false quiet), if_neg noConflict] at performed
      rw [har, hla, hlb, hcm, hha, hmu, hpo]
      exact exec_of_stored ready rfl rfl performed rfl rfl
  · exact exec_of_refuse (code := .badValue) ready rfl rfl (State.writeRouteShadow_none h (judgeSlot_outside refused))
  · exact exec_of_refuse (code := .badIndex) ready rfl rfl (State.writeRouteShadow_outside h)

theorem exec_of_error {c : Instr} {tag : Field} {fields : List Nat} {s : State} {code : OutcomeCode} (ready : s.Ready)
    (row : exec c s = .next (s.submit (s.ownCommand (tag.toNat :: fields))))
    (decoded : (s.ownCommand (tag.toNat :: fields)).decode = .error code) :
    exec c s = .next (s.answered tag code.code []) := by
  have judged : s.judge (s.ownCommand (tag.toNat :: fields)) = refuse s code := by rw [State.judge, decoded]
  exact row.trans (congrArg Host.Outcome.next (State.submit_answered ready tag fields judged rfl))

theorem UnwritableTable.decode_badTable (s : State) (tag : Nat) (table : UnwritableTable) (fields : List Nat) :
    (s.ownCommand (tag :: 2 :: unwritableCode table :: fields)).decode = .error .badTable := by
  cases table <;> rfl

/-- Settles O35, by the judging of the two entries and the decoding of R17. -/
theorem pathAndSettingsWritesJudgedWhole : Obligations.PathAndSettingsWritesJudgedWhole := by
  unfold Obligations.PathAndSettingsWritesJudgedWhole
  refine ⟨fun s tag index mo fn fd qu ro fa ready => ⟨fun p m x h hmo low high hfd cadence hx => ?_, fun h refused => ?_,
    fun h => ?_⟩, fun s tag index cf rf sw be ready => ⟨fun x h hcf hrf hsw hbe => ?_, fun h refused => ?_, fun h => ?_,
      fun table fields => ?_⟩⟩
  · subst hx
    refine exec_of_stored ready rfl rfl (State.writePath_some p h
      (judgePath_of_codes (w := ⟨mo.toNat, fn.toNat, fd.toNat, qu.toNat, ro.toNat, fa.toNat⟩) hmo low high hfd cadence))
      rfl ?_
    simp only [Bool.or_eq_true, outside_iff]
    split <;> split <;> omega
  · exact exec_of_refuse (code := .badValue) ready rfl rfl (State.writePath_none h (judgePath_outside refused))
  · exact exec_of_refuse (code := .badIndex) ready rfl rfl (State.writePath_outside h)
  · have pending : (s.beaconPending && x.beaconEnabled) = if x.beaconEnabled then s.beaconPending else false := by
      cases x.beaconEnabled <;> simp
    rw [hcf, hrf, hbe, ← pending]
    exact exec_of_stored ready rfl rfl (State.writeSettings_some h
      (judgeSettings_of_codes (w := ⟨cf.toNat, rf.toNat, sw.toNat, be.toNat⟩) hcf hrf hsw hbe)) rfl (outside_code 1 255 _)
  · exact exec_of_refuse (code := .badValue) ready rfl rfl (State.writeSettings_none h (judgeSettings_outside refused))
  · exact exec_of_refuse (code := .badIndex) ready rfl rfl (State.writeSettings_outside h)
  · exact exec_of_error (code := .badTable) ready rfl (UnwritableTable.decode_badTable s tag.toNat table _)

theorem Lane.moves_iff (x : Lane) (d : LaneDescriptor) :
    x.moves d = true ↔ x.primary ≠ d.primary ∨ x.backup ≠ d.backup ∨ x.drain ≠ d.drain := by
  simp [Lane.moves, or_assoc]

theorem State.storeDescriptor_of_moves {s : State} {l : LaneId} {d : LaneDescriptor} (h : s.lanes[l].moves d = true) :
    s.storeDescriptor l d = { s.setLane l ((s.lanes[l].withDescriptor d).emptied .primary
      (if d.primary.isSome then .priming else .idle)) with probe := (s.probeLeft l).probe } := by
  rw [State.storeDescriptor_eq, Lane.described, if_pos h, if_pos h]

theorem State.storeDescriptor_of_stays {s : State} {l : LaneId} {d : LaneDescriptor} (h : ¬s.lanes[l].moves d = true) :
    s.storeDescriptor l d = s.setLane l (s.lanes[l].withDescriptor d) := by
  rw [State.storeDescriptor_eq, Lane.described, if_neg h, if_neg h]
  rfl

/-- Settles O33: the two steps of R74 by `judgeLane_of_codes` and `State.laneInUse_iff`, and what an accepted write stores by
`State.storeDescriptor_eq`. -/
theorem laneWriteJudgedWhole : Obligations.LaneWriteJudgedWhole := by
  unfold Obligations.LaneWriteJudgedWhole
  intro s tag index pr ba dr tg wi il ir au ready
  refine ⟨fun l d x h hpr hba hdr htg hwi hil hir hau sources hx => ?_, fun h refused => ?_, fun h => ?_⟩
  · subst hx
    have performed := State.writeLane_some (s := s) l h (judgeLane_of_codes
      (w := ⟨pr.toNat, ba.toNat, dr.toNat, tg.toNat, wi.toNat, il.toNat, ir.toNat, au.toNat⟩) hpr hba hdr htg hwi hil hir
      hau sources)
    refine ⟨fun drain named => ?_, fun free => ?_⟩
    · rw [if_pos ((State.laneInUse_iff l d.drain).mpr ⟨drain, named⟩)] at performed
      exact exec_of_refuse (code := .laneInUse) ready rfl rfl performed
    · have notInUse : ¬s.laneInUse l d.drain = true := fun inUse => by
        obtain ⟨drain, f, hf, names⟩ := (State.laneInUse_iff l d.drain).mp inUse
        exact free.elim drain fun none => ne_true_of_eq_false (none f hf) names
      rw [if_neg notInUse] at performed
      have address : (s.storeDescriptor l d).deviceAddress = s.deviceAddress := by rw [State.storeDescriptor_eq]; rfl
      have code : (if 16 ≤ tg.toNat ∧ tg.toNat ≤ 1984 ∧ 4 ≤ wi.toNat ∧ wi.toNat ≤ 256 then 0 else 1) =
          if outside 16 1984 tg.toNat || outside 4 256 wi.toNat then 1 else 0 := by
        simp only [Bool.or_eq_true, outside_iff]
        split <;> split <;> omega
      refine ⟨_, exec_of_stored ready rfl rfl performed address code, ?_, ?_, fun primary backup drain => ?_,
        fun moved => ?_⟩
      · rw [State.storeDescriptor_eq]
        rfl
      · rw [State.storeDescriptor_eq]
        rfl
      · have stays : ¬s.lanes[l].moves d = true := fun moves =>
          ((Lane.moves_iff _ _).mp moves).elim (· primary) (·.elim (· backup) (· drain))
        rw [State.storeDescriptor_of_stays stays]
        refine ⟨?_, rfl⟩
        show s.lanes.set l (s.lanes[l].withDescriptor d) = _
        rw [Lane.withDescriptor, ← primary, ← backup, ← drain]
      · rw [State.storeDescriptor_of_moves ((Lane.moves_iff _ _).mpr moved)]
        refine ⟨rfl, fun f w run => ?_, fun noWindow => ?_⟩
        · exact congrArg State.probe (State.probeLeft_of_window run)
        · show (s.probeLeft l).probe = s.probe
          rw [State.probeLeft_of_noWindow noWindow]
  · refine exec_of_refuse (code := .badValue) ready rfl rfl (State.writeLane_none h (judgeLane_outside ?_))
    exact refused.imp_right (.imp_right (.imp_right (.imp_right (.imp_right (.imp_right
      (.imp_right (.imp_left (congrArg BitVec.toNat))))))))
  · exact exec_of_refuse (code := .badIndex) ready rfl rfl (State.writeLane_outside h)

end Sys2Proof.Machine
end

section
/-! SUPPORT. Lanes that the stream table turns to their backup or back to their primary (R88 to R91): what any number of
checks against one table come to, and with it the removals of CLEAR-STREAMS, of a loss of feed and of a sweep. -/

namespace Sys2Proof.Machine

/-! ### Windows -/

theorem WindowFollows.trans {s t u : State} {A B : LaneId → Prop} (h : WindowFollows s t A) (h' : WindowFollows t u B) :
    WindowFollows s u fun l => A l ∨ B l := by
  obtain ⟨open₁, quiet₁⟩ := h
  obtain ⟨open₂, quiet₂⟩ := h'
  refine ⟨fun l f w run => ?_, fun noWindow => ?_⟩
  · obtain ⟨left₁, stays₁⟩ := open₁ l f w run
    by_cases ha : A l
    · have probe₁ := left₁ ha
      obtain ⟨left₂, stays₂⟩ := open₂ l f { w with running := false } (congrArg Probe.run probe₁)
      refine ⟨fun _ => ?_, fun none => absurd (.inl ha) none⟩
      by_cases hb : B l
      · rw [left₂ hb, probe₁]
      · rw [stays₂ hb, probe₁]
    · have probe₁ := stays₁ ha
      obtain ⟨left₂, stays₂⟩ := open₂ l f w ((congrArg Probe.run probe₁).trans run)
      refine ⟨fun either => ?_, fun neither => ?_⟩
      · rw [left₂ (either.resolve_left ha), probe₁]
      · rw [stays₂ fun hb => neither (.inr hb), probe₁]
  · have probe₁ := quiet₁ noWindow
    rw [quiet₂ fun l f w run => noWindow l f w ((congrArg Probe.run probe₁).symm.trans run), probe₁]

theorem WindowFollows.refl (s : State) : WindowFollows s s fun _ => False :=
  ⟨fun _ _ _ _ => ⟨False.elim, fun _ => rfl⟩, fun _ => rfl⟩

theorem WindowFollows.of_iff {s t : State} {A B : LaneId → Prop} (h : WindowFollows s t A) (same : ∀ l, A l ↔ B l) :
    WindowFollows s t B := by
  rwa [show B = A from funext fun l => propext (same l).symm]

/-- A window is read from the probe alone. -/
theorem WindowFollows.of_probe {s s' t t' : State} {A : LaneId → Prop} (h : WindowFollows s t A)
    (from_ : s'.probe = s.probe) (to_ : t'.probe = t.probe) : WindowFollows s' t' A := by
  unfold WindowFollows
  rw [from_, to_]
  exact h

/-! ### The table that the checks ask -/

theorem State.hasSource_congr {s t : State} (h : t.streams = s.streams) (x : Option Source) :
    t.hasSource x = s.hasSource x := by
  cases x with
  | none => rfl
  | some y => simp only [State.hasSource, State.hasStream, State.findStream, h]

theorem State.failsOver_congr {s t : State} {l : LaneId} (lane : t.lanes[l] = s.lanes[l]) (streams : t.streams = s.streams) :
    t.failsOver l = s.failsOver l := by
  simp only [State.failsOver, lane, State.hasSource_congr streams]

theorem State.returns_congr {s t : State} {l : LaneId} (lane : t.lanes[l] = s.lanes[l]) (streams : t.streams = s.streams) :
    t.returns l = s.returns l := by
  simp only [State.returns, lane, State.hasSource_congr streams]

theorem State.not_returns_of_failsOver {s : State} {l : LaneId} (h : s.failsOver l = true) : s.returns l = false := by
  obtain ⟨active, -⟩ := (s.failsOver_iff l).mp h
  refine Bool.eq_false_iff.mpr fun back => ?_
  obtain ⟨active', -⟩ := (s.returns_iff l).mp back
  exact Active.noConfusion (active.symm.trans active')

/-! ### Any number of checks -/

/-- `t` is `s` with the lanes `F` turned to their backup by the failover check and the lanes `R` turned back to their primary
by the return check, each under its conditions in `s` (R88 to R91, R95, R146). -/
structure LanesTurn (s : State) (F R : LaneId → Prop) (t : State) : Prop where
  frame : ∀ d, t.veilLanes d = s.veilLanes d
  fails : ∀ l, F l → s.failsOver l = true
  returns : ∀ l, R l → s.returns l = true
  failed : ∀ l, F l → t.lanes[l] = s.lanes[l].emptied .backup .priming ∧
    t.notice (.laneFailover l) = { raised := true, generation := ((s.notice (.laneFailover l)).generation + 1) % 256 }
  returned : ∀ l, R l → t.lanes[l] = s.lanes[l].emptied .primary .priming
  stood : ∀ l, ¬F l → ¬R l → t.lanes[l] = s.lanes[l]
  quiet : ∀ n, (∀ l, F l → n ≠ .laneFailover l) → t.notice n = s.notice n
  window : WindowFollows s t fun l => F l ∨ R l

theorem LanesTurn.refl (s : State) : LanesTurn s (fun _ => False) (fun _ => False) s where
  frame _ := rfl
  fails _ := False.elim
  returns _ := False.elim
  failed _ := False.elim
  returned _ := False.elim
  stood _ _ _ := rfl
  quiet _ _ := rfl
  window := (WindowFollows.refl s).of_iff fun _ => (or_self_iff).symm

section
variable {s t : State} {F R : LaneId → Prop}

theorem LanesTurn.of_iff {F' R' : LaneId → Prop} (h : LanesTurn s F R t) (hF : ∀ l, F l ↔ F' l) (hR : ∀ l, R l ↔ R' l) :
    LanesTurn s F' R' t := by
  rwa [show F' = F from funext fun l => propext (hF l).symm, show R' = R from funext fun l => propext (hR l).symm]

theorem LanesTurn.eq (h : LanesTurn s F R t) :
    t = { s with lanes := t.lanes, probe := t.probe, notices := t.notices } := State.eq_of_veilLanes h.frame

theorem LanesTurn.streams (h : LanesTurn s F R t) : t.streams = s.streams := (congrArg State.streams (h.frame s) :)

/-- A lane turned to its backup fails over no more. -/
theorem LanesTurn.failsOver_of_failed (h : LanesTurn s F R t) {l : LaneId} (hl : F l) : t.failsOver l = false := by
  obtain ⟨lane, -⟩ := h.failed l hl
  refine Bool.eq_false_iff.mpr fun again => ?_
  obtain ⟨active, -⟩ := (t.failsOver_iff l).mp again
  rw [lane] at active
  cases active

/-- A lane turned back to its primary does not fail over: the primary's stream is valid. -/
theorem LanesTurn.failsOver_of_returned (h : LanesTurn s F R t) {l : LaneId} (hl : R l) : t.failsOver l = false := by
  obtain ⟨-, valid, -⟩ := (s.returns_iff l).mp (h.returns l hl)
  refine Bool.eq_false_iff.mpr fun again => ?_
  obtain ⟨-, -, gone, -⟩ := (t.failsOver_iff l).mp again
  rw [h.returned l hl, State.hasSource_congr h.streams] at gone
  exact Bool.false_ne_true (gone.symm.trans valid)

theorem LanesTurn.returns_of_failed (h : LanesTurn s F R t) {l : LaneId} (hl : F l) : t.returns l = false := by
  obtain ⟨lane, -⟩ := h.failed l hl
  obtain ⟨-, -, gone, -⟩ := (s.failsOver_iff l).mp (h.fails l hl)
  refine Bool.eq_false_iff.mpr fun again => ?_
  obtain ⟨-, valid, -⟩ := (t.returns_iff l).mp again
  rw [lane, State.hasSource_congr h.streams] at valid
  exact Bool.false_ne_true (gone.symm.trans valid)

theorem LanesTurn.returns_of_returned (h : LanesTurn s F R t) {l : LaneId} (hl : R l) : t.returns l = false := by
  refine Bool.eq_false_iff.mpr fun again => ?_
  obtain ⟨active, -⟩ := (t.returns_iff l).mp again
  rw [h.returned l hl] at active
  cases active

/-- A lane that a check in `t` acts on is one that no check has turned. -/
theorem LanesTurn.untouched_of_failsOver (h : LanesTurn s F R t) {l : LaneId} (act : t.failsOver l = true) :
    ¬F l ∧ ¬R l :=
  ⟨fun hl => Bool.false_ne_true ((h.failsOver_of_failed hl).symm.trans act),
    fun hl => Bool.false_ne_true ((h.failsOver_of_returned hl).symm.trans act)⟩

theorem LanesTurn.untouched_of_returns (h : LanesTurn s F R t) {l : LaneId} (act : t.returns l = true) : ¬F l ∧ ¬R l :=
  ⟨fun hl => Bool.false_ne_true ((h.returns_of_failed hl).symm.trans act),
    fun hl => Bool.false_ne_true ((h.returns_of_returned hl).symm.trans act)⟩

theorem State.failoverCheck_of_failsOver {l : LaneId} (h : s.failsOver l = true) :
    s.failoverCheck l = (s.emptyLane l .backup .priming).raise (.laneFailover l) := if_pos h

theorem State.failoverCheck_of_stays {l : LaneId} (h : s.failsOver l = false) : s.failoverCheck l = s :=
  if_neg (ne_true_of_eq_false h)

theorem State.returnCheck_of_returns {l : LaneId} (h : s.returns l = true) :
    s.returnCheck l = s.emptyLane l .primary .priming := if_pos h

theorem State.returnCheck_of_stays {l : LaneId} (h : s.returns l = false) : s.returnCheck l = s :=
  if_neg (ne_true_of_eq_false h)

theorem State.emptyLane_lane (l : LaneId) (a : Active) (x : LaneState) (s : State) :
    (s.emptyLane l a x).lanes[l] = s.lanes[l].emptied a x := by
  rw [State.emptyLane_frame]
  exact State.setLane_same _ _ _

theorem State.emptyLane_lane_other {l n : LaneId} (h : n ≠ l) (a : Active) (x : LaneState) (s : State) :
    (s.emptyLane l a x).lanes[n] = s.lanes[n] := by
  rw [State.emptyLane_frame]
  exact State.setLane_other _ _ _ h

theorem State.emptyLane_notices (l : LaneId) (a : Active) (x : LaneState) (s : State) :
    (s.emptyLane l a x).notices = s.notices := by rw [State.emptyLane_frame]; rfl

theorem LanesTurn.failoverCheck (h : LanesTurn s F R t) (l : LaneId) :
    LanesTurn s (fun n => F n ∨ (n = l ∧ s.failsOver n = true)) R (t.failoverCheck l) := by
  cases act : t.failsOver l with
  | false =>
    rw [State.failoverCheck_of_stays act]
    refine h.of_iff (fun n => ⟨.inl, fun either => either.elim id fun ⟨same, fails⟩ => ?_⟩) fun _ => Iff.rfl
    subst same
    by_contra hn
    have hr : ¬R n := fun hr =>
      Bool.false_ne_true ((State.not_returns_of_failsOver fails).symm.trans (h.returns n hr))
    have same := State.failsOver_congr (h.stood n hn hr) h.streams
    exact Bool.false_ne_true (act.symm.trans (same.trans fails))
  | true =>
    obtain ⟨hf, hr⟩ := h.untouched_of_failsOver act
    have lane := h.stood l hf hr
    have acts : s.failsOver l = true := (State.failsOver_congr lane h.streams).symm.trans act
    rw [State.failoverCheck_of_failsOver act]
    have other : ∀ n : LaneId, n ≠ l → Notice.laneFailover n ≠ .laneFailover l := fun n hn e =>
      hn (Notice.laneFailover.inj e)
    refine ⟨?_, fun n hn => ?_, h.returns, fun n hn => ?_, fun n hn => ?_, fun n hn hn' => ?_, fun n hn => ?_, ?_⟩
    · exact fun d => ((State.veilLanes_of_probe (State.raise_veil d _ _)).trans (State.emptyLane_veil d _ _ _ _)).trans
        (h.frame d)
    · exact hn.elim (h.fails n) fun ⟨_, fails⟩ => fails
    · by_cases same : n = l
      · subst same
        refine ⟨(State.emptyLane_lane n _ _ t).trans (congrArg (Lane.emptied · .backup .priming) lane), ?_⟩
        rw [State.notice_raise_same, State.notice_congr (State.emptyLane_notices _ _ _ _),
          h.quiet (.laneFailover n) fun m hm e => hf (Notice.laneFailover.inj e ▸ hm)]
      · obtain ⟨failed, notice⟩ := h.failed n (hn.resolve_right fun ⟨e, _⟩ => same e)
        refine ⟨(State.emptyLane_lane_other same _ _ t).trans failed, ?_⟩
        rw [State.notice_raise_other _ (other n same), State.notice_congr (State.emptyLane_notices _ _ _ _), notice]
    · have same : n ≠ l := fun e => hr (e ▸ hn)
      exact (State.emptyLane_lane_other same _ _ t).trans (h.returned n hn)
    · have same : n ≠ l := fun e => hn (.inr ⟨e, e ▸ acts⟩)
      exact (State.emptyLane_lane_other same _ _ t).trans (h.stood n (fun hf => hn (.inl hf)) hn')
    · rw [State.notice_raise_other _ (hn l (.inr ⟨rfl, acts⟩)), State.notice_congr (State.emptyLane_notices _ _ _ _),
        h.quiet n fun m hm => hn m (.inl hm)]
    · refine ((h.window.trans (State.emptyLane_windowFollows l .backup .priming t)).of_probe rfl rfl).of_iff fun n => ?_
      rw [or_right_comm, and_iff_left_of_imp fun e : n = l => e ▸ acts]

theorem LanesTurn.returnCheck (h : LanesTurn s F R t) (l : LaneId) :
    LanesTurn s F (fun n => R n ∨ (n = l ∧ s.returns n = true)) (t.returnCheck l) := by
  cases act : t.returns l with
  | false =>
    rw [State.returnCheck_of_stays act]
    refine h.of_iff (fun _ => Iff.rfl) fun n => ⟨.inl, fun either => either.elim id fun ⟨same, back⟩ => ?_⟩
    subst same
    by_contra hn
    have hf : ¬F n := fun hf =>
      Bool.false_ne_true ((State.not_returns_of_failsOver (h.fails n hf)).symm.trans back)
    have same := State.returns_congr (h.stood n hf hn) h.streams
    exact Bool.false_ne_true (act.symm.trans (same.trans back))
  | true =>
    obtain ⟨hf, hr⟩ := h.untouched_of_returns act
    have lane := h.stood l hf hr
    have acts : s.returns l = true := (State.returns_congr lane h.streams).symm.trans act
    rw [State.returnCheck_of_returns act]
    refine ⟨?_, h.fails, fun n hn => ?_, fun n hn => ?_, fun n hn => ?_, fun n hn hn' => ?_, fun n hn => ?_, ?_⟩
    · exact fun d => (State.emptyLane_veil d _ _ _ _).trans (h.frame d)
    · exact hn.elim (h.returns n) fun ⟨_, back⟩ => back
    · have same : n ≠ l := fun e => hf (e ▸ hn)
      obtain ⟨failed, notice⟩ := h.failed n hn
      refine ⟨(State.emptyLane_lane_other same _ _ t).trans failed, ?_⟩
      rw [State.notice_congr (State.emptyLane_notices _ _ _ _), notice]
    · by_cases same : n = l
      · subst same
        exact (State.emptyLane_lane n _ _ t).trans (congrArg (Lane.emptied · .primary .priming) lane)
      · exact (State.emptyLane_lane_other same _ _ t).trans (h.returned n (hn.resolve_right fun ⟨e, _⟩ => same e))
    · have same : n ≠ l := fun e => hn' (.inr ⟨e, e ▸ acts⟩)
      exact (State.emptyLane_lane_other same _ _ t).trans (h.stood n hn fun hr => hn' (.inl hr))
    · rw [State.notice_congr (State.emptyLane_notices _ _ _ _), h.quiet n hn]
    · refine (h.window.trans (State.emptyLane_windowFollows l .primary .priming t)).of_iff fun n => ?_
      rw [or_assoc, and_iff_left_of_imp fun e : n = l => e ▸ acts]

theorem forList_cons {α : Type} (f : α → State → State) (x : α) (l : List α) (s : State) :
    forList f (x :: l) s = forList f l (f x s) := rfl

/-- A turned lane keeps its sources. -/
theorem LanesTurn.primary (h : LanesTurn s F R t) (l : LaneId) : t.lanes[l].primary = s.lanes[l].primary := by
  by_cases hf : F l
  · rw [(h.failed l hf).1]
    rfl
  · by_cases hr : R l
    · rw [h.returned l hr]
      rfl
    · rw [h.stood l hf hr]

/-- The failover check of the lanes of a list whose primary is `x`. -/
theorem LanesTurn.failoverChecks (x : Source) (ls : List LaneId) (h : LanesTurn s F R t) :
    LanesTurn s (fun n => F n ∨ (n ∈ ls ∧ s.lanes[n].primary = some x ∧ s.failsOver n = true)) R
      (forList (fun l t => if t.lanes[l].primary = some x then t.failoverCheck l else t) ls t) := by
  induction ls generalizing t F with
  | nil => exact h.of_iff (fun n => by simp) fun _ => Iff.rfl
  | cons l ls ih =>
    by_cases hx : s.lanes[l].primary = some x
    · have first : LanesTurn s (fun n => F n ∨ (n = l ∧ s.failsOver n = true)) R
          (if t.lanes[l].primary = some x then t.failoverCheck l else t) := by
        rw [if_pos ((h.primary l).trans hx)]
        exact h.failoverCheck l
      refine (ih first).of_iff (fun n => ?_) fun _ => Iff.rfl
      rw [or_assoc, List.mem_cons, or_and_right]
      refine or_congr_right (or_congr_left ⟨fun ⟨same, fails⟩ => ⟨same, same ▸ hx, fails⟩, fun ⟨same, _, fails⟩ =>
        ⟨same, fails⟩⟩)
    · have first : LanesTurn s F R (if t.lanes[l].primary = some x then t.failoverCheck l else t) := by
        rwa [if_neg fun e => hx ((h.primary l).symm.trans e)]
      refine (ih first).of_iff (fun n => ?_) fun _ => Iff.rfl
      rw [List.mem_cons, or_and_right]
      refine or_congr_right ⟨.inr, fun either => either.resolve_left fun ⟨same, e, _⟩ => hx (same ▸ e)⟩

theorem LanesTurn.onRemoval (h : LanesTurn s F R t) (x : Source) :
    LanesTurn s (fun n => F n ∨ (s.lanes[n].primary = some x ∧ s.failsOver n = true)) R (t.onRemoval x) :=
  (h.failoverChecks x (List.finRange 32)).of_iff (fun n => or_congr_right (and_iff_right (List.mem_finRange n)))
    fun _ => Iff.rfl

/-- A group of removals handed to the lane store (R89). -/
theorem LanesTurn.removals (xs : List Source) (h : LanesTurn s F R t) :
    LanesTurn s (fun n => F n ∨ ∃ x ∈ xs, s.lanes[n].primary = some x ∧ s.failsOver n = true) R
      (forList State.onRemoval xs t) := by
  induction xs generalizing t F with
  | nil => exact h.of_iff (fun n => by simp) fun _ => Iff.rfl
  | cons x xs ih =>
    rw [forList_cons]
    refine (ih (h.onRemoval x)).of_iff (fun n => ?_) fun _ => Iff.rfl
    rw [or_assoc, List.exists_mem_cons_iff]

/-- Both checks of every lane: every lane that meets the conditions of one has been turned by it (R89, R91). -/
theorem LanesTurn.sweepChecks (ls : List LaneId) (h : LanesTurn s F R t) :
    LanesTurn s (fun n => F n ∨ (n ∈ ls ∧ s.failsOver n = true)) (fun n => R n ∨ (n ∈ ls ∧ s.returns n = true))
      (forList (fun l t => (t.failoverCheck l).returnCheck l) ls t) := by
  induction ls generalizing t F R with
  | nil => exact h.of_iff (fun n => by simp) fun n => by simp
  | cons l ls ih =>
    refine (ih ((h.failoverCheck l).returnCheck l)).of_iff (fun n => ?_) fun n => ?_ <;>
      rw [or_assoc, List.mem_cons, or_and_right]

theorem LanesTurn.onSweepDone (h : LanesTurn s F R t) :
    LanesTurn s (fun n => s.failsOver n = true) (fun n => s.returns n = true) t.onSweepDone :=
  (h.sweepChecks (List.finRange 32)).of_iff
    (fun n => ⟨fun either => either.elim (h.fails n) And.right, fun fails => .inr ⟨List.mem_finRange n, fails⟩⟩)
    fun n => ⟨fun either => either.elim (h.returns n) And.right, fun back => .inr ⟨List.mem_finRange n, back⟩⟩

end

/-! ### Entries made free (R66, R68, R69) -/

theorem State.freeWhere_streams (pick : StreamEntry → Bool) (s : State) (i : Fin 48) :
    (s.freeWhere pick).streams[i] = s.streams[i].filter fun e => !pick e := Vector.getElem_map _ _

theorem State.sourcesWhere_length (pick : StreamEntry → Bool) (s : State) :
    (s.sourcesWhere pick).length = ((s.streams.toList.filterMap id).filter pick).length := by
  unfold State.sourcesWhere
  induction s.streams.toList with
  | nil => rfl
  | cons e l ih =>
    cases e with
    | none => exact ih
    | some x => cases h : pick x <;> simpa [Option.filter, h] using ih

theorem State.mem_sourcesWhere (pick : StreamEntry → Bool) (s : State) (x : Source) :
    x ∈ s.sourcesWhere pick ↔ ∃ (i : Fin 48) (e : StreamEntry), s.streams[i] = some e ∧ pick e = true ∧ e.source = x := by
  simp only [State.sourcesWhere, List.mem_filterMap, Vector.mem_toList_iff, Option.map_eq_some_iff, Option.filter_eq_some_iff]
  refine ⟨fun ⟨a, mem, e, ⟨ha, picked⟩, source⟩ => ?_, fun ⟨i, e, he, picked, source⟩ => ?_⟩
  · obtain ⟨i, hi, at_i⟩ := Vector.mem_iff_getElem.mp mem
    exact ⟨⟨i, hi⟩, e, at_i.trans ha, picked, source⟩
  · exact ⟨some e, Vector.mem_iff_getElem.mpr ⟨i, i.isLt, he⟩, e, ⟨rfl, picked⟩, source⟩

theorem State.hasStream_iff (x : Source) (s : State) :
    s.hasStream x = true ↔ ∃ (i : Fin 48) (e : StreamEntry), s.streams[i] = some e ∧ e.source = x := by
  rw [State.hasStream, Option.isSome_iff_ne_none, Ne, State.findStream_eq_none_iff]
  simp only [not_forall, not_not, exists_prop]

/-- After the entries that `pick` picks are free, a stream is valid when it had an entry that stays. -/
theorem State.hasStream_freeWhere (pick : StreamEntry → Bool) (s : State) (x : Source) :
    (s.freeWhere pick).hasStream x = true ↔
      ∃ (i : Fin 48) (e : StreamEntry), s.streams[i] = some e ∧ pick e = false ∧ e.source = x := by
  rw [State.hasStream_iff]
  simp only [State.freeWhere_streams, Option.filter_eq_some_iff, Bool.not_eq_true', and_assoc]

theorem State.removeWhere_turn (pick : StreamEntry → Bool) (s : State) :
    LanesTurn (s.freeWhere pick)
      (fun l => ∃ x ∈ s.sourcesWhere pick, s.lanes[l].primary = some x ∧ (s.freeWhere pick).failsOver l = true)
      (fun _ => False) (s.removeWhere pick) :=
  ((LanesTurn.refl (s.freeWhere pick)).removals (s.sourcesWhere pick)).of_iff (fun _ => false_or _ ▸ Iff.rfl) fun _ => Iff.rfl

/-! ### CLEAR-STREAMS and RESUME -/

theorem State.freeWhere_all {s : State} (h : s.StreamLaw) :
    s.freeWhere (fun _ => true) = { s with streams := Vector.replicate 48 none, tableCount := 0 } := by
  obtain ⟨count, -⟩ := h
  have streams : (s.streams.map fun e => e.filter fun _ => !true) = Vector.replicate 48 none :=
    Vector.ext fun i hi => by
      rw [Vector.getElem_map, Vector.getElem_replicate]
      cases s.streams[i] <;> rfl
  have counted := countP_filter_add_length (fun _ => true) s.streams.toList
  have none_left : (s.streams.toList.map fun e => e.filter fun _ => !true).countP Option.isSome = 0 := by
    rw [List.countP_eq_zero]
    intro e he
    obtain ⟨a, -, rfl⟩ := List.mem_map.mp he
    cases a <;> simp [Option.filter]
  rw [none_left, Nat.zero_add, ← State.validEntries_eq, ← count] at counted
  have gone : s.tableCount - (s.sourcesWhere fun _ => true).length = 0 := by
    rw [State.sourcesWhere, counted, Nat.sub_self]
  rw [State.freeWhere, streams, gone]

/-- No lane turns when no stream is valid any more (R69, R88). -/
theorem State.onRemoval_of_noStream {s : State} (h : ∀ i : Fin 48, s.streams[i] = none) (x : Source) :
    s.onRemoval x = s := by
  have invalid : ∀ y, s.hasSource y = false := fun y => by
    cases y with
    | none => rfl
    | some y =>
      refine Bool.eq_false_iff.mpr fun valid => ?_
      obtain ⟨i, e, he, -⟩ := (State.hasStream_iff y s).mp valid
      exact Option.some_ne_none e (he.symm.trans (h i))
  refine forEach_keeps (fun t => t = s) _ s rfl fun l t ht => ?_
  subst ht
  have stays : t.failsOver l = false := Bool.eq_false_iff.mpr fun fails => by
    obtain ⟨-, -, -, backup⟩ := (t.failsOver_iff l).mp fails
    exact Bool.false_ne_true ((invalid _).symm.trans backup)
  rw [State.failoverCheck_of_stays stays, ite_self]

theorem State.clearStreams_eq {s : State} (h : s.StreamLaw) :
    s.clearStreams = done { s with streams := Vector.replicate 48 none, tableCount := 0 } := by
  have still : s.removeWhere (fun _ => true) = s.freeWhere fun _ => true :=
    forList_keeps (fun t => t = s.freeWhere fun _ => true) State.onRemoval _ _ rfl fun x _ t ht => by
      subst ht
      refine State.onRemoval_of_noStream (fun i => ?_) x
      rw [State.freeWhere_streams]
      cases s.streams[i] <;> rfl
  rw [State.clearStreams, still, State.freeWhere_all h]

/-- Settles O38: the table of R28 by the timing state, CLEAR-STREAMS by `State.clearStreams_eq`. -/
theorem resumeAndClearStreams : Obligations.ResumeAndClearStreams := by
  unfold Obligations.ResumeAndClearStreams
  refine ⟨fun s tag feed ready => ⟨fun p h recovered => ?_, fun p h lost => ?_, fun p h follow => ?_, fun h => ?_⟩,
    fun s tag ready law => exec_of_done ready rfl rfl (State.clearStreams_eq law) rfl⟩
  · have performed : s.resumePath feed.toNat = done (s.setPath p { s.paths[p] with resumePending := true }) := by
      simp only [State.resumePath, index?_val p h, recovered]
    exact exec_of_done ready rfl rfl performed rfl
  · have performed : s.resumePath feed.toNat = refuse s .noSignal := by
      simp only [State.resumePath, index?_val p h, lost]
    exact exec_of_refuse (code := .noSignal) ready rfl rfl performed
  · have performed : s.resumePath feed.toNat = done s := by
      simp only [State.resumePath, index?_val p h, follow]
    exact exec_of_done ready rfl rfl performed rfl
  · have performed : s.resumePath feed.toNat = refuse s .badValue := by
      simp only [State.resumePath, index?_outside h]
    exact exec_of_refuse (code := .badValue) ready rfl rfl performed

end Sys2Proof.Machine
end

section
/-! SUPPORT. The other commands of the control channel (R92, R93, R125, R126, R143, R144, R157, R158), and the queues (R16,
R149, R151, R152). -/

namespace Sys2Proof.Machine

/-! ### Routes -/

theorem State.armSwaps_routes (feeds : Nat) (s : State) (p : Feed) :
    (s.armSwaps feeds).routes[p] =
      if feeds.testBit p.val then { s.routes[p] with swapPending := true } else s.routes[p] := by
  refine forEach_at (fun t => t.routes[p]) (fun _ => ()) _ s p _ (fun j t h => ?_) (fun _ _ => rfl) fun t _ ht => ?_
  · split
    · exact State.setRoute_other _ _ _ (Ne.symm h)
    · rfl
  · split
    · exact (State.setRoute_same _ _ _).trans (congrArg (fun r : Route => { r with swapPending := true }) ht)
    · exact ht

/-- The swaps armed of a set, the routes given (R126). -/
theorem State.armSwaps_eq {feeds : Nat} {s : State} {armed : Vector Route 8}
    (h : ∀ p : Feed, armed[p] = if feeds.testBit p.val then { s.routes[p] with swapPending := true } else s.routes[p]) :
    s.armSwaps feeds = { s with routes := armed } := by
  have frame : s.armSwaps feeds = { s with routes := (s.armSwaps feeds).routes } :=
    forEach_keeps (fun t => t = { s with routes := t.routes }) _ s rfl fun p t ht => by
      split
      · exact congrArg (State.setRoute p { t.routes[p] with swapPending := true }) ht
      · exact ht
  have routes : (s.armSwaps feeds).routes = armed :=
    Vector.ext fun i hi => (State.armSwaps_routes feeds s ⟨i, hi⟩).trans (h ⟨i, hi⟩).symm
  rw [frame, routes]

/-- Settles O36, by `State.armSwaps_eq`. -/
theorem routeCommandsArmAndCopy : Obligations.RouteCommandsArmAndCopy := by
  unfold Obligations.RouteCommandsArmAndCopy
  refine ⟨fun s tag feeds armed empty h => ⟨fun room set => ?_, fun room above => ?_, fun set => ?_, fun above => ?_⟩,
    fun s tag feed ready => ⟨fun p h quiet => ?_, fun p h pending => ?_, fun h => ?_⟩⟩
  · have performed : s.swapRoutes feeds.toNat = done { s with routes := armed } := by
      rw [State.swapRoutes, if_pos set, State.armSwaps_eq h]
    exact exec_of_done ⟨empty, room⟩ rfl rfl performed rfl
  · have performed : s.swapRoutes feeds.toNat = refuse s .badValue := if_neg (Nat.not_le.mpr above)
    exact exec_of_refuse (code := .badValue) ⟨empty, room⟩ rfl rfl performed
  · have executes : Command.broadcastSwap?
        { fields := [15, tag.toNat, 3, feeds.toNat], ragged := false, sumGood := true, broadcast := true } =
          some feeds.toNat := if_pos set
    refine congrArg Host.Outcome.next ((State.submit_broadcast empty _ rfl).trans ?_)
    rw [State.executeBroadcast, executes]
    exact State.armSwaps_eq h
  · have discarded : Command.broadcastSwap?
        { fields := [15, tag.toNat, 3, feeds.toNat], ragged := false, sumGood := true, broadcast := true } = none :=
      if_neg (Nat.not_le.mpr above)
    refine congrArg Host.Outcome.next ((State.submit_broadcast empty _ rfl).trans ?_)
    rw [State.executeBroadcast, discarded]
  · have performed : s.copyLive feed.toNat = done (s.setRoute p s.routes[p].copied) := by
      simp only [State.copyLive, index?_val p h, quiet, Bool.false_eq_true, if_false]
    exact exec_of_done ready rfl rfl performed rfl
  · have performed : s.copyLive feed.toNat = refuse s .pending := by
      simp only [State.copyLive, index?_val p h, pending, if_true]
    exact exec_of_refuse (code := .pending) ready rfl rfl performed
  · have performed : s.copyLive feed.toNat = refuse s .badValue := by simp only [State.copyLive, index?_outside h]
    exact exec_of_refuse (code := .badValue) ready rfl rfl performed

/-! ### Lanes -/

/-- A command that empties a lane, answered DONE (R77, R92, R93, R146). -/
theorem exec_of_emptyLane {c : Instr} {tag : Field} {s : State} {l : LaneId} {a : Active}
    (h : exec c s = .next ((s.emptyLane l a .priming).answered tag 0 [])) :
    ∃ t, exec c s = .next t ∧ t = { s.answered tag 0 [] with lanes := t.lanes, probe := t.probe } ∧
      t.lanes = s.lanes.set l (s.lanes[l].emptied a .priming) ∧ WindowFollows s t fun n => n = l := by
  refine ⟨_, h, ?_, ?_, (State.emptyLane_windowFollows l a .priming s).of_probe rfl rfl⟩
  · rw [State.emptyLane_frame]
    rfl
  · rw [State.emptyLane_frame]
    rfl

/-- Settles O37: the two tables, and `exec_of_emptyLane` where a lane is emptied. -/
theorem laneCommandsEmptyTheLane : Obligations.LaneCommandsEmptyTheLane := by
  unfold Obligations.LaneCommandsEmptyTheLane
  have address : ∀ (s : State) (l : LaneId) (a : Active) (x : LaneState),
      (s.emptyLane l a x).deviceAddress = s.deviceAddress := fun s l a x => by rw [State.emptyLane_frame]; rfl
  refine ⟨fun s tag lane ready => ⟨fun l h busy => ?_, fun l h idle => ?_, fun h => ?_⟩,
    fun s tag lane ready => ⟨fun l h active valid => ?_, fun l h active gone => ?_, fun l h active => ?_, fun h => ?_⟩⟩
  · have performed : s.flushLane lane.toNat = done (s.emptyLane l s.lanes[l].active .priming) := by
      simp only [State.flushLane, index?_val l h, if_neg busy]
    exact exec_of_emptyLane (exec_of_done ready rfl rfl performed (address _ _ _ _))
  · have performed : s.flushLane lane.toNat = done s := by
      simp only [State.flushLane, index?_val l h, if_pos idle]
    exact exec_of_done ready rfl rfl performed rfl
  · have performed : s.flushLane lane.toNat = refuse s .badValue := by simp only [State.flushLane, index?_outside h]
    exact exec_of_refuse (code := .badValue) ready rfl rfl performed
  · have performed : s.returnPrimary lane.toNat = done (s.emptyLane l .primary .priming) := by
      simp only [State.returnPrimary, index?_val l h, active, valid, if_true]
    exact exec_of_emptyLane (exec_of_done ready rfl rfl performed (address _ _ _ _))
  · have performed : s.returnPrimary lane.toNat = refuse s .noSignal := by
      simp only [State.returnPrimary, index?_val l h, active, gone, Bool.false_eq_true, if_false]
    exact exec_of_refuse (code := .noSignal) ready rfl rfl performed
  · have performed : s.returnPrimary lane.toNat = done s := by
      simp only [State.returnPrimary, index?_val l h, active]
    exact exec_of_done ready rfl rfl performed rfl
  · have performed : s.returnPrimary lane.toNat = refuse s .badValue := by
      simp only [State.returnPrimary, index?_outside h]
    exact exec_of_refuse (code := .badValue) ready rfl rfl performed

/-! ### Notices -/

/-- The place in the notice table of the first record of a kind (R155). -/
def kindStart (kind : Nat) : Nat :=
  [0, 0, 8, 16, 24, 25, 26, 154, 282, 283, 315, 347, 379, 443, 451, 452].getD kind 0

theorem Notice.index_val (n : Notice) : n.index.val = kindStart n.kind + n.subject := by
  cases n <;> simp [Notice.index, kindStart, Notice.kind, Notice.subject, Nat.add_assoc]

theorem Notice.eq_of_kind_subject {m n : Notice} (kind : m.kind = n.kind) (subject : m.subject = n.subject) : m = n :=
  Notice.index_injective (Fin.ext (by rw [Notice.index_val, Notice.index_val, kind, subject]))

theorem Notice.mem_all (n : Notice) : n ∈ Notice.all := List.mem_of_getElem? n.all_at_index

theorem Notice.named?_eq (n : Notice) : Notice.named? n.kind n.subject = some n := by
  have some_named : (Notice.named? n.kind n.subject).isSome = true :=
    List.find?_isSome.mpr ⟨n, n.mem_all, by simp⟩
  obtain ⟨m, hm⟩ := Option.isSome_iff_exists.mp some_named
  have picked := List.find?_some hm
  rw [Bool.and_eq_true, beq_iff_eq, beq_iff_eq] at picked
  obtain ⟨kind, subject⟩ := picked
  rw [hm, Notice.eq_of_kind_subject kind subject]

theorem Notice.named?_eq_none {kind subject : Nat} (h : ∀ n : Notice, kind ≠ n.kind ∨ subject ≠ n.subject) :
    Notice.named? kind subject = none := by
  refine List.find?_eq_none.mpr fun n _ named => ?_
  rw [Bool.and_eq_true, beq_iff_eq, beq_iff_eq] at named
  obtain ⟨hk, hs⟩ := named
  exact (h n).elim (· hk.symm) (· hs.symm)

theorem State.notice_setNotice_same (n : Notice) (r : NoticeRecord) (s : State) : (s.setNotice n.index r).notice n = r :=
  vector_set_same _ _ _

theorem State.notice_setNotice_other {m n : Notice} (h : m ≠ n) (r : NoticeRecord) (s : State) :
    (s.setNotice n.index r).notice m = s.notice m :=
  vector_set_other _ _ fun e => h (Notice.index_injective e)

/-- The results of READ-STATUS, from the list of the records it finds (R158). -/
theorem State.statusFields_eq {s : State} {cursor : Nat} {found : List Notice}
    (h : found = Notice.all.filter fun n => (s.notice n).raised && decide (cursor ≤ 256 * n.kind + n.subject)) :
    s.statusFields cursor =
      [if 16 < found.length then 1 else 0,
        (found[16]?.map Notice.cursor).getD 0, min 16 found.length] ++
        (found.take 16).flatMap fun n => [n.kind, n.subject, (s.notice n).generation] := by
  have same : (s.raisedNotices.filter fun n => decide (cursor ≤ n.cursor)) = found := by
    rw [h, State.raisedNotices, List.filter_filter]
    exact List.filter_congr fun n _ => Bool.and_comm _ _
  unfold State.statusFields
  simp only [same, List.head?_drop, List.length_take]
  have more : yesNo found[16]?.isSome = if 16 < found.length then 1 else 0 := by
    by_cases hl : 16 < found.length
    · rw [List.getElem?_eq_getElem hl, if_pos hl]
      rfl
    · rw [List.getElem?_eq_none (Nat.le_of_not_lt hl), if_neg hl]
      rfl
  rw [more]

/-- Settles O39: `State.statusFields_eq` for the report, and `Notice.named?_eq` for the record that a clear names. -/
theorem statusAndClearFollowTheNoticeTable : Obligations.StatusAndClearFollowTheNoticeTable := by
  unfold Obligations.StatusAndClearFollowTheNoticeTable
  refine ⟨fun s n => ?_, fun s tag cursor found ready hfound => ⟨fun low => ?_, fun high => ?_⟩,
    fun s tag kind subject generation ready => ⟨fun n hk hs low => ?_, fun refused => ?_⟩⟩
  · cases n <;> simp [State.persists]
  · have performed : s.readStatus cursor.toNat = Machine.found s (s.statusFields cursor.toNat) := if_pos low
    refine (exec_of_found (op := .readStatus cursor.toNat) ready rfl rfl performed).trans ?_
    rw [State.statusFields_eq hfound]
    cases found[16]? <;> rfl
  · exact exec_of_refuse (code := .badValue) ready rfl rfl (if_neg (Nat.not_le.mpr high))
  · have performed : s.clearNotice kind.toNat subject.toNat generation.toNat =
        if !(s.notice n).raised then done s
        else if (s.notice n).generation ≠ generation.toNat then refuse s .stale
        else if s.persists n then refuse s .persists
        else done (s.setNotice n.index { s.notice n with raised := false }) := by
      simp only [State.clearNotice, hk, hs, Notice.named?_eq, if_neg (Nat.not_lt.mpr low)]
    refine ⟨fun clear => ?_, fun raised stale => ?_, fun raised same lasts => ?_, fun raised same past => ?_⟩
    · rw [clear] at performed
      exact exec_of_done ready rfl rfl performed rfl
    · rw [raised, if_pos stale] at performed
      exact exec_of_refuse (code := .stale) ready rfl rfl performed
    · rw [raised, if_neg (not_not.mpr same), if_pos lasts] at performed
      exact exec_of_refuse (code := .persists) ready rfl rfl performed
    · rw [raised, if_neg (not_not.mpr same), if_neg (ne_true_of_eq_false past)] at performed
      refine ⟨_, exec_of_done ready rfl rfl performed rfl, rfl, ?_, fun m hm => State.notice_setNotice_other hm _ s⟩
      exact (State.notice_setNotice_same n _ s).trans (congrArg (NoticeRecord.mk false) same)
  · have performed : s.clearNotice kind.toNat subject.toNat generation.toNat = refuse s .badValue := by
      unfold State.clearNotice
      rcases refused with none_named | high
      · rw [Notice.named?_eq_none none_named]
      · split
        · rfl
        · rw [if_pos high]
    exact exec_of_refuse (code := .badValue) ready rfl rfl performed

/-! ### The probe -/

theorem judgeProbe_of_codes {mode first last trigger : Nat} {m : ProbeMode} {a b : LaneId} {x : Trigger}
    (hm : probeMode? mode = some m) (ha : first = a.val) (hb : last = b.val) (hx : trigger? trigger = some x) (le : a ≤ b) :
    judgeProbe mode first last trigger = some { mode := m, first := a, last := b, trigger := x } := by
  simp only [judgeProbe, hm, index?_val a ha, index?_val b hb, hx, Option.bind_eq_bind, Option.bind_some,
    if_neg (Fin.not_lt.mpr le)]

theorem judgeProbe_outside {mode first last trigger : Nat}
    (h : 4 ≤ mode ∨ 32 ≤ first ∨ 32 ≤ last ∨ 2 ≤ trigger ∨ last < first) : judgeProbe mode first last trigger = none := by
  rcases h with h | h | h | h | h
  case inl => simp [judgeProbe, probeMode?_outside h]
  case inr.inl => simp [judgeProbe, index?_outside h]
  case inr.inr.inl => simp [judgeProbe, index?_outside h]
  case inr.inr.inr.inl => simp [judgeProbe, trigger?_outside h]
  case inr.inr.inr.inr =>
    by_cases hf : first < 32
    · simp [judgeProbe, index?_inside hf, index?_inside (Nat.lt_trans h hf), h]
    · simp [judgeProbe, index?_outside (Nat.not_lt.mp hf)]

/-- Settles O40, by `judgeProbe_of_codes` and `judgeProbe_outside`. -/
theorem probeStartsAndStops : Obligations.ProbeStartsAndStops := by
  unfold Obligations.ProbeStartsAndStops
  intro s tag mode first last trigger ready
  refine ⟨fun m a b hmode ha hb le => ?_, fun refused => ?_, exec_of_done ready rfl rfl rfl rfl⟩
  · have named : probeMode? mode.toNat = some m := by
      rw [hmode]
      cases m <;> rfl
    have started : ∀ x, trigger? trigger.toNat = some x → s.startProbe mode.toNat first.toNat last.toNat trigger.toNat =
        done (s.setProbe { s.probe with
          settings := { mode := m, first := a, last := b, trigger := x }
          run := ProbeSettings.startRun { mode := m, first := a, last := b, trigger := x } }) := fun x hx => by
      simp only [State.startProbe, judgeProbe_of_codes named ha hb hx le]
    refine ⟨fun command => ?_, fun house => ?_⟩
    · exact exec_of_done ready rfl rfl (started .command (by rw [command]; rfl)) rfl
    · exact exec_of_done ready rfl rfl (started .house (by rw [house]; rfl)) rfl
  · have performed : s.startProbe mode.toNat first.toNat last.toNat trigger.toNat = refuse s .badValue := by
      simp only [State.startProbe, judgeProbe_outside refused]
    exact exec_of_refuse (code := .badValue) ready rfl rfl performed

/-! ### Commands that fail their decoding -/

/-- A command code and a table code that are answered BAD-TABLE (R17). -/
def badTable (operation table : Nat) : Prop :=
  (operation = 1 ∧ (table < 1 ∨ 8 < table)) ∨
    (operation = 2 ∧ table ≠ 1 ∧ table ≠ 2 ∧ table ≠ 3 ∧ table ≠ 6 ∧ table ≠ 8)

theorem decodeRead_of_badTable {table : Nat} (more : List Nat) (h : table < 1 ∨ 8 < table) :
    decodeRead (table :: more) = .error .badTable := if_neg (by omega)

theorem decodeRead_error {args : List Nat} {e : OutcomeCode} (h : decodeRead args = .error e) :
    e = .badCommand ∨ ∃ table more, args = table :: more ∧ (table < 1 ∨ 8 < table) := by
  unfold decodeRead at h
  split at h
  · exact .inl (Except.error.inj h).symm
  · split at h
    · split at h
      · split at h <;> cases h
      · exact .inl (Except.error.inj h).symm
    · exact .inr ⟨_, _, rfl, by omega⟩

theorem decodeWrite_of_badTable {table : Nat} (more : List Nat)
    (h : table ≠ 1 ∧ table ≠ 2 ∧ table ≠ 3 ∧ table ≠ 6 ∧ table ≠ 8) :
    decodeWrite (table :: more) = .error .badTable := by
  obtain ⟨h1, h2, h3, h6, h8⟩ := h
  unfold decodeWrite
  split
  next e => cases e
  next t rest e =>
    obtain ⟨rfl, rfl⟩ := List.cons.inj e
    split
    case h_6 => rfl
    all_goals contradiction

theorem decodeWrite_error {args : List Nat} {e : OutcomeCode} (h : decodeWrite args = .error e) :
    e = .badCommand ∨
      ∃ table more, args = table :: more ∧ table ≠ 1 ∧ table ≠ 2 ∧ table ≠ 3 ∧ table ≠ 6 ∧ table ≠ 8 := by
  unfold decodeWrite at h
  split at h
  · exact .inl (Except.error.inj h).symm
  next table more =>
    split at h
    case h_6 h1 h2 h3 h6 h8 => exact .inr ⟨_, _, rfl, h1, h2, h3, h6, h8⟩
    all_goals
      split at h
      · cases h
      · exact .inl (Except.error.inj h).symm

theorem decodeCode_of_badTable {operation table : Nat} (more : List Nat) (h : badTable operation table) :
    decodeCode operation (table :: more) = .error .badTable := by
  rcases h with ⟨rfl, h⟩ | ⟨rfl, h⟩
  · exact decodeRead_of_badTable more h
  · exact decodeWrite_of_badTable more h

/-- The decoding of a code and its arguments fails with BAD-COMMAND, unless their table is a bad one (R17). -/
theorem decodeCode_error {operation : Nat} {args : List Nat} {e : OutcomeCode} (h : decodeCode operation args = .error e) :
    e = .badCommand ∨ ∃ table more, args = table :: more ∧ badTable operation table := by
  unfold decodeCode at h
  split at h
  case h_1 => exact (decodeRead_error h).imp_right fun ⟨table, more, e, bad⟩ => ⟨table, more, e, .inl ⟨rfl, bad⟩⟩
  case h_2 => exact (decodeWrite_error h).imp_right fun ⟨table, more, e, bad⟩ => ⟨table, more, e, .inr ⟨rfl, bad⟩⟩
  case h_14 => exact .inl (Except.error.inj h).symm
  all_goals
    split at h
    · cases h
    · exact .inl (Except.error.inj h).symm

/-- The decoding of a command from its words behind the address field (R15, R17). -/
theorem commandOfWords_decode (address : Nat) (rest : List FeedWord) (good broadcast : Bool) :
    (commandOfWords address rest good broadcast).decode =
      if good = true ∧ rest.length % 3 = 0 then
        match readFields rest with
        | _ :: code :: args => decodeCode code args
        | _ => .error .badCommand
      else .error .badCommand := by
  unfold Command.decode commandOfWords
  cases good with
  | false => rfl
  | true =>
    by_cases whole : rest.length % 3 = 0
    · simp only [whole, bne_self_eq_false, Bool.not_true, Bool.or_self, Bool.false_eq_true, if_false, and_self, if_true]
      cases readFields rest with
      | nil => rfl
      | cons tag more => cases more <;> rfl
    · simp [whole]

theorem State.executeCommand_of_error {s : State} {c : Command} {code : OutcomeCode} (h : c.decode = .error code) :
    s.executeCommand c =
      { s with replyQueue := s.replyQueue ++ [{ fields := [s.deviceAddress.val, c.tag, code.code] }] } := by
  have judged : s.judge c = refuse s code := by rw [State.judge, h]
  exact State.executeCommand_of_judge judged

theorem commandOfWords_tag (address : Nat) (rest : List FeedWord) (good broadcast : Bool) :
    (commandOfWords address rest good broadcast).tag = (readFields rest).head?.getD 0 := by
  unfold Command.tag commandOfWords
  cases readFields rest <;> rfl

/-- Settles O41: which of the two codes the decoding gives (`decodeCode_error`, `decodeCode_of_badTable`). -/
theorem badCommandsChangeNothing : Obligations.BadCommandsChangeNothing := by
  unfold Obligations.BadCommandsChangeNothing
  intro s rest good empty
  refine ⟨fun code room wf ifTable ifCommand either => ?_, fun wf => ?_⟩
  · have answered : ∀ e : OutcomeCode, (commandOfWords s.deviceAddress.val rest good false).decode = .error e →
        exec (.badCommand rest good) s = .next { s with
          replyQueue := s.replyQueue ++
            [{ fields := [s.deviceAddress.val, (readFields rest).head?.getD 0, e.code] }] } := fun e failed => by
      refine congrArg Host.Outcome.next ((State.submit_ready ⟨empty, room⟩ _ rfl).trans ?_)
      rw [State.executeCommand_of_error failed, commandOfWords_tag]
    rcases either with rfl | rfl
    · refine answered .badCommand ?_
      have fails := (Bool.and_eq_true_iff.mp wf).2
      rw [commandOfWords_decode] at fails ⊢
      by_cases whole : good = true ∧ rest.length % 3 = 0
      · rw [if_pos whole] at fails ⊢
        obtain ⟨sum, length⟩ := whole
        have noTable := ((ifCommand rfl).resolve_left fun bad => Bool.false_ne_true (bad.symm.trans sum)).resolve_left
          (not_not.mpr length)
        split
        next tag operation args fields =>
          rw [fields] at fails
          cases decoded : decodeCode operation args with
          | ok op => simp only [decoded, Bool.false_eq_true] at fails
          | error e =>
            rcases decodeCode_error decoded with rfl | ⟨table, more, rfl, bad⟩
            · rfl
            · obtain ⟨reads, writes⟩ := noTable tag operation table more fields
              rcases bad with ⟨op, out⟩ | ⟨op, out⟩
              · have := reads op
                omega
              · have := writes op
                omega
        next => rfl
      · rw [if_neg whole]
    · refine answered .badTable ?_
      obtain ⟨sum, whole, tag, operation, table, more, fields, bad⟩ := ifTable rfl
      rw [commandOfWords_decode, if_pos ⟨sum, whole⟩, fields]
      exact decodeCode_of_badTable more bad
  · have discarded : (commandOfWords 15 rest good true).broadcastSwap? = none :=
      Option.isNone_iff_eq_none.mp (Bool.and_eq_true_iff.mp wf).2
    refine congrArg Host.Outcome.next ((State.submit_broadcast empty _ rfl).trans ?_)
    rw [State.executeBroadcast, discarded]

/-! ### The queues -/

theorem State.takeCommand_of_room {s : State} (h : s.commandQueue.length < 4) (c : Command) :
    s.takeCommand c = { s with commandQueue := s.commandQueue ++ [c] } := if_pos h

theorem State.takeCommand_of_full {s : State} (h : 4 ≤ s.commandQueue.length) (c : Command) :
    s.takeCommand c = s.raise .commandOverrun := if_neg (Nat.not_lt.mpr h)

/-- Settles O42: a head that must wait stays (`State.executeHeads_stalled`). -/
theorem fullQueuesStallTheChannel : Obligations.FullQueuesStallTheChannel := by
  unfold Obligations.FullQueuesStallTheChannel
  intro s head rest queue addressed full
  refine ⟨fun c room => ?_, fun tag lost => ?_⟩
  · rw [State.submit, State.takeCommand_of_room room, State.runQueue]
    have longer : s.commandQueue ++ [c] = head :: (rest ++ [c]) := by rw [queue, List.cons_append]
    exact State.executeHeads_stalled (s := { s with commandQueue := s.commandQueue ++ [c] }) longer addressed full _
  · have stalled : s.submit (s.ownCommand [tag.toNat, 13]) = s.raise .commandOverrun := by
      rw [State.submit, State.takeCommand_of_full lost, State.runQueue]
      exact State.executeHeads_stalled (s := s.raise .commandOverrun) queue addressed full _
    exact ⟨_, congrArg Host.Outcome.next stalled, rfl, State.notice_raise_same _ _, fun n hn =>
      State.notice_raise_other _ hn⟩

/-! ### Refusals -/

/-- An answer other than DONE and ADJUSTED is a refusal: nothing has changed, and there are no results (R16). -/
def Answer.RefusesWhole (s : State) (a : Answer) : Prop :=
  a.code = .done ∨ a.code = .adjusted ∨ (a.state = s ∧ a.results = [])

@[simp] theorem refuse_refusesWhole (s : State) (code : OutcomeCode) : (refuse s code).RefusesWhole s :=
  .inr (.inr ⟨rfl, rfl⟩)

@[simp] theorem done_refusesWhole (s t : State) : (done t).RefusesWhole s := .inl rfl

@[simp] theorem found_refusesWhole (s t : State) (fields : List Nat) : (found t fields).RefusesWhole s := .inl rfl

@[simp] theorem stored_refusesWhole (s t : State) (adjusted : Bool) (fields : List Nat) :
    (stored t adjusted fields).RefusesWhole s := by
  cases adjusted
  · exact .inl rfl
  · exact .inr (.inl rfl)

/-- Every branch of every command is an answer of one of the four forms. -/
theorem State.perform_refusesWhole (s : State) (op : Op) : (s.perform op).RefusesWhole s := by
  cases op with
  | readRule i => simp only [State.perform, State.readRule]; split <;> simp
  | readLane i => simp only [State.perform, State.readLane]; split <;> simp
  | readRouteShadow i => simp only [State.perform, State.readRouteShadow]; split <;> simp
  | readRouteLive i => simp only [State.perform, State.readRouteLive]; split <;> simp
  | readStream i => simp only [State.perform, State.readStream]; split <;> simp
  | readPath i => simp only [State.perform, State.readPath]; split <;> simp
  | readProbe i => simp only [State.perform, State.readProbe]; split <;> simp
  | readSettings i => simp only [State.perform, State.readSettings]; split <;> simp
  | writeRule i w => simp only [State.perform, State.writeRule]; (repeat' split) <;> simp
  | writeLane i w => simp only [State.perform, State.writeLane]; (repeat' split) <;> simp
  | writeRouteShadow i w => simp only [State.perform, State.writeRouteShadow]; (repeat' split) <;> simp
  | writePath i w => simp only [State.perform, State.writePath]; (repeat' split) <;> simp
  | writeSettings i w => simp only [State.perform, State.writeSettings]; (repeat' split) <;> simp
  | swapRoutes feeds => simp only [State.perform, State.swapRoutes]; split <;> simp
  | copyLive feed => simp only [State.perform, State.copyLive]; (repeat' split) <;> simp
  | flushLane lane => simp only [State.perform, State.flushLane]; (repeat' split) <;> simp
  | returnPrimary lane => simp only [State.perform, State.returnPrimary]; (repeat' split) <;> simp
  | resume feed => simp only [State.perform, State.resumePath]; (repeat' split) <;> simp
  | readStatus cursor => simp only [State.perform, State.readStatus]; split <;> simp
  | clearNotice kind subject generation => simp only [State.perform, State.clearNotice]; (repeat' split) <;> simp
  | probeStart mode first last trigger => simp only [State.perform, State.startProbe]; split <;> simp
  | clearStreams => exact done_refusesWhole _ _
  | probeStop => exact done_refusesWhole _ _
  | restart => exact done_refusesWhole _ _

theorem State.judge_refusesWhole (s : State) (c : Command) : (s.judge c).RefusesWhole s := by
  unfold State.judge
  split
  · exact refuse_refusesWhole _ _
  · exact s.perform_refusesWhole _

/-- Settles O43: what every command but RESTART keeps (`State.perform_keeps`), and `State.judge_refusesWhole`. -/
theorem executedCommandsAreAnswered : Obligations.ExecutedCommandsAreAnswered := by
  unfold Obligations.ExecutedCommandsAreAnswered
  refine ⟨fun s c rest queue addressed room noRestart => ?_, fun s c notDone notAdjusted =>
    ((s.judge_refusesWhole c).resolve_left notDone).resolve_left notAdjusted⟩
  have executes : s.executeHead = { s with commandQueue := rest }.executeCommand c := by
    simp only [State.executeHead, queue, addressed, Bool.false_eq_true, if_false, if_pos room]
  have kept : ({ s with commandQueue := rest }.judge c).state.commandQueue = rest ∧
      ({ s with commandQueue := rest }.judge c).state.replyQueue = s.replyQueue := by
    unfold State.judge
    split
    next => exact ⟨rfl, rfl⟩
    next op decoded =>
      obtain ⟨commands, replies, -⟩ := State.perform_keeps { s with commandQueue := rest } op (noRestart op decoded)
      exact ⟨commands, replies⟩
  obtain ⟨commands, replies⟩ := kept
  rw [executes]
  exact ⟨commands, _, _, congrArg (· ++ [_]) replies⟩

end Sys2Proof.Machine
end

section
/-! SUPPORT. Words arriving at an input port: marks at every position (R1), the packet reader word by word (R6, R10), and the
words of a carried line (R2, R5). -/

namespace Sys2Proof.Machine

/-! ### Recognition at a port (R1) -/

section
variable {p : Feed} {s : State}

theorem Vector.set_own {α : Type} {n : Nat} (v : Vector α n) (i : Fin n) {x : α} (h : x = v[i]) : v.set i x = v := by
  subst h
  exact Vector.set_getElem_self _

theorem State.hold_hold (a b : Held) (s : State) : (s.hold p a).hold p b = s.hold p b := by
  simp [State.hold, State.setPort]

/-- A port as it holds nothing back, with what it holds back put to it again. -/
theorem State.hold_own (p : Feed) (s : State) : (s.hold p .nothing).hold p s.ports[p].held = s := by
  rw [State.hold_hold]
  exact congrArg (fun v : Vector Port 8 => { s with ports := v }) (Vector.set_own s.ports p rfl)

theorem State.hold_held (p : Feed) (h : Held) (s : State) : (s.hold p h).ports[p].held = h := by simp [State.hold]

/-- One word at a port that holds `h` back: the words it makes ordinary, and then the mark it completes or what is held back
behind it. -/
theorem State.wordArrives_of_held (hs : s.ports[p].held = .nothing) (h : Held) (w : FeedWord) :
    (s.hold p h).wordArrives p w =
      (recognise h w).mark.elim ((forList (State.plainWord p) (recognise h w).plain s).hold p (recognise h w).held)
        ((forList (State.plainWord p) (recognise h w).plain s).markArrives p ·) := by
  unfold State.wordArrives
  simp only [State.hold_held, State.hold_hold, State.hold_nothing hs]
  cases (recognise h w).mark <;> rfl

theorem State.wordArrives_of_mark (hs : s.ports[p].held = .nothing) {h : Held} {w : FeedWord} {m : Mark}
    (made : recognise h w = { plain := [], mark := some m, held := .nothing }) :
    (s.hold p h).wordArrives p w = s.markArrives p m := by
  rw [State.wordArrives_of_held hs, made]
  rfl

theorem State.wordArrives_of_plain (hs : s.ports[p].held = .nothing) {h h' : Held} {w : FeedWord} {plain : List FeedWord}
    (made : recognise h w = { plain := plain, mark := none, held := h' }) :
    (s.hold p h).wordArrives p w = (forList (State.plainWord p) plain s).hold p h' := by
  rw [State.wordArrives_of_held hs, made]
  rfl

/-- A 3FEh may open a mark, whatever was held back (R1). -/
theorem recognise_opening (h : Held) : recognise h 0x3FE#10 = { plain := h.words, mark := none, held := .first } := by
  cases h <;> rfl

theorem recognise_type {w : FeedWord} {m : Mark} (h : mark? w = some m) :
    recognise .second w = { plain := [], mark := some m, held := .nothing } := by
  simp only [recognise, h]

theorem recognise_otherType {w : FeedWord} (h : mark? w = none) (hw : w ≠ 0x3FE#10) :
    recognise .second w = { plain := [0x3FE#10, 0x001#10, w], mark := none, held := .nothing } := by
  simp only [recognise, h, recogniseFresh, if_neg hw]
  rfl

theorem recognise_ordinary {w : FeedWord} (hw : w ≠ 0x3FE#10) :
    recognise .nothing w = { plain := [w], mark := none, held := .nothing } := if_neg hw

/-- The state in which 3FEh, 001h have just arrived: what was held back before them was ordinary, and they are held. -/
theorem State.wordsArrive_opening (p : Feed) (s : State) (type : FeedWord) :
    s.wordsArrive p [0x3FE#10, 0x001#10, type] =
      ((forList (State.plainWord p) s.ports[p].held.words (s.hold p .nothing)).hold p .second).wordArrives p type := by
  have none_held : (s.hold p .nothing).ports[p].held = .nothing := s.hold_held p .nothing
  have first : s.wordArrives p 0x3FE#10 =
      (forList (State.plainWord p) s.ports[p].held.words (s.hold p .nothing)).hold p .first := by
    have := State.wordArrives_of_plain none_held (recognise_opening s.ports[p].held)
    rwa [State.hold_own] at this
  have second := State.wordArrives_of_plain (p := p) (plainWords_held s.ports[p].held.words none_held)
    (h := .first) (w := 0x001#10) rfl
  show ((s.wordArrives p 0x3FE#10).wordArrives p 0x001#10).wordArrives p type = _
  rw [first, second]
  rfl

theorem State.wordsArrive_one (hs : s.ports[p].held = .nothing) {w : FeedWord} (hw : w ≠ 0x3FE#10) :
    s.wordsArrive p [w] = s.plainWord p w := by
  have arrives := State.wordArrives_of_plain hs (recognise_ordinary hw)
  rw [State.hold_nothing hs] at arrives
  exact arrives.trans (State.hold_nothing (State.plainWord_held w hs))

/-- The words of a mark, behind words of which none is held back (R1). -/
theorem State.wordsArrive_mark (hs : s.ports[p].held = .nothing) (m : Mark) :
    s.wordsArrive p m.words = s.markArrives p m := by
  have opened : forList (State.plainWord p) s.ports[p].held.words (s.hold p .nothing) = s := by
    rw [hs, State.hold_nothing hs]
    rfl
  cases m with
  | line =>
    refine (State.wordsArrive_opening p s 0x0A5#10).trans ?_
    rw [opened]
    exact State.wordArrives_of_mark hs (recognise_type rfl)
  | frame =>
    refine (State.wordsArrive_opening p s 0x15A#10).trans ?_
    rw [opened]
    exact State.wordArrives_of_mark hs (recognise_type rfl)
  | picture =>
    refine (State.wordsArrive_opening p s 0x0C3#10).trans ?_
    rw [opened]
    exact State.wordArrives_of_mark hs (recognise_type rfl)

theorem State.markArrives_picture (h : s.ports[p].sync = .blanking) : s.markArrives p .picture = s.pictureMarkArrives p := by
  simp only [State.markArrives, h]

theorem State.markArrives_picture_of_notBlanking (h : s.ports[p].sync ≠ .blanking) :
    s.markArrives p .picture = forList (State.plainWord p) pictureMarkWords s := by
  unfold State.markArrives
  split
  · contradiction
  · contradiction
  · split
    · contradiction
    · rfl

theorem State.arrive_eq (a : Arrival) (ws : List FeedWord) (s : State) :
    s.arrive a ws = ((s.wordsArrive a.port a.before).wordsArrive a.port ws).wordsArrive a.port a.behind := by
  rw [State.arrive, State.wordsArrive_append, State.wordsArrive_append]

theorem State.arrive_bare (p : Feed) (ws : List FeedWord) (s : State) : s.arrive (.bare p) ws = s.wordsArrive p ws :=
  s.arrive_eq (.bare p) ws

end

/-- Settles O5, by the state behind a 3FEh, 001h (`State.wordsArrive_opening`) and what the type word makes of it. -/
theorem marksAreRecognisedAtEveryPosition : Obligations.MarksAreRecognisedAtEveryPosition := by
  unfold Obligations.MarksAreRecognisedAtEveryPosition
  refine ⟨fun s u p type hu => ?_, fun s p w hs hw => State.wordsArrive_one hs hw, fun s a dt k kind span around h => ?_⟩
  · have opened : s.wordsArrive p [0x3FE#10, 0x001#10, type] = (u.hold p .second).wordArrives p type := by
      rw [hu]
      exact State.wordsArrive_opening p s type
    have none_held : u.ports[p].held = .nothing := by
      rw [hu]
      exact plainWords_held _ (s.hold_held p .nothing)
    rw [opened]
    refine ⟨fun h => ?_, fun h => ?_, fun h blanking => ?_, fun h => ?_, fun h => ?_⟩
    · subst h
      exact State.wordArrives_of_mark none_held (recognise_type (m := .line) rfl)
    · subst h
      exact State.wordArrives_of_mark none_held (recognise_type (m := .frame) rfl)
    · subst h
      rw [State.wordArrives_of_mark none_held (recognise_type (m := .picture) rfl), State.markArrives_picture blanking]
    · rcases h with ⟨rfl, elsewhere⟩ | ⟨line, frame, picture, opening⟩
      · rw [State.wordArrives_of_mark none_held (recognise_type (m := .picture) rfl),
          State.markArrives_picture_of_notBlanking elsewhere]
        rfl
      · have noMark : mark? type = none := by rw [mark?, if_neg line, if_neg frame, if_neg picture]
        rw [State.wordArrives_of_plain none_held (recognise_otherType noMark opening)]
        exact State.hold_nothing (plainWords_held _ none_held)
    · subst h
      exact ⟨_, rfl, State.wordArrives_of_plain none_held (recognise_opening .second)⟩
  · subst h
    exact ⟨congrArg Host.Outcome.next (State.arrive_eq _ _ _), congrArg Host.Outcome.next (State.arrive_eq _ _ _),
      congrArg Host.Outcome.next (State.arrive_eq _ _ _), congrArg Host.Outcome.next (State.arrive_eq _ _ _),
      congrArg Host.Outcome.next (State.arrive_eq _ _ _), congrArg Host.Outcome.next (State.arrive_eq _ _ _)⟩

/-! ### The carried line (R5) -/

section
variable {p : Feed} {s : State}

theorem State.updateCarried_eq (p : Feed) (f : Line → Line) (s : State) :
    s.updateCarried p f = { s with outputs := s.outputs.set p (s.outputs[p].carrying f) } := by
  have stands : ∀ o, o = s.outputs[p] → s = { s with outputs := s.outputs.set p o } := fun o ho => by
    rw [Vector.set_own s.outputs p ho]
  unfold State.updateCarried Output.carrying
  cases h : s.outputs[p] with
  | dark => exact stands _ h.symm
  | blackRun ws => exact stands _ h.symm
  | line l =>
    cases hl : l.generated with
    | true => simpa [hl] using stands _ h.symm
    | false => simp [hl, State.setOutput]

theorem Output.carrying_carrying (f g : Line → Line) (hf : ∀ l, (f l).generated = l.generated) (o : Output) :
    (o.carrying f).carrying g = o.carrying fun l => g (f l) := by
  cases o with
  | dark => rfl
  | blackRun ws => rfl
  | line l => cases h : l.generated <;> simp [Output.carrying, h, hf]

theorem State.updateCarried_updateCarried (f g : Line → Line) (hf : ∀ l, (f l).generated = l.generated) (s : State) :
    (s.updateCarried p f).updateCarried p g = s.updateCarried p fun l => g (f l) := by
  simp [State.updateCarried_eq, Output.carrying_carrying f g hf]

theorem State.updateCarried_of_id {f : Line → Line} (hf : ∀ l, f l = l) (s : State) : s.updateCarried p f = s := by
  rw [State.updateCarried_eq]
  have same : s.outputs[p].carrying f = s.outputs[p] := by cases s.outputs[p] <;> simp [Output.carrying, hf]
  rw [same, Vector.set_own s.outputs p rfl]

/-! ### Picture words (R5) -/

theorem State.plainWord_picture (h : s.ports[p].sync = .picture) (w : FeedWord) :
    s.plainWord p w = s.pictureWord p w := by simp only [State.plainWord, h]

theorem State.plainWord_unsynced (h : s.ports[p].sync = .unsynced) (w : FeedWord) : s.plainWord p w = s := by
  simp only [State.plainWord, h]

theorem State.plainWord_blanking (h : s.ports[p].sync = .blanking) (w : FeedWord) :
    s.plainWord p w = s.blankingWord p w := by simp only [State.plainWord, h]

theorem forList_plainWord_picture (ws : List FeedWord) (h : s.ports[p].sync = .picture) :
    forList (State.plainWord p) ws s = s.updateCarried p fun l => { l with picture := l.picture.map (· ++ ws) } := by
  induction ws generalizing s with
  | nil => exact (State.updateCarried_of_id (fun l => by simp) s).symm
  | cons w ws ih =>
    rw [forList_cons, State.plainWord_picture h, State.pictureWord,
      ih (by rw [State.updateCarried_ports]; exact h), State.updateCarried_updateCarried]
    · simp [Function.comp_def]
    · exact fun _ => rfl

theorem forList_plainWord_unsynced (ws : List FeedWord) (h : s.ports[p].sync = .unsynced) :
    forList (State.plainWord p) ws s = s :=
  forList_keeps (fun t => t = s) _ ws s rfl fun w _ t ht => by
    subst ht
    exact State.plainWord_unsynced h w

end

/-! ### Blanking words and the packet reader (R6, R10) -/

/-- `n` blanking words read, after which the packet reader holds `r`: the carried line is `n` words longer (R5, R6). -/
def State.blankingRead (p : Feed) (n : Nat) (r : List FeedWord) (s : State) : State :=
  { s with
    ports := s.ports.set p { s.ports[p] with reader := r }
    outputs := s.outputs.set p (s.outputs[p].carrying fun l => { l with blanking := l.blanking + n }) }

section
variable {p : Feed} {s : State}

theorem State.blankingRead_port (n : Nat) (r : List FeedWord) (s : State) :
    (s.blankingRead p n r).ports[p] = { s.ports[p] with reader := r } := vector_set_same _ _ _

theorem State.blankingRead_blankingRead (n m : Nat) (r r' : List FeedWord) (s : State) :
    (s.blankingRead p n r).blankingRead p m r' = s.blankingRead p (n + m) r' := by
  have outputs : ∀ o : Output, (o.carrying fun l => { l with blanking := l.blanking + n }).carrying
      (fun l => { l with blanking := l.blanking + m }) = o.carrying fun l => { l with blanking := l.blanking + (n + m) } :=
    fun o => by
      rw [Output.carrying_carrying]
      · simp only [Nat.add_assoc]
      · exact fun _ => rfl
  simp [State.blankingRead, outputs]

theorem State.blankingRead_zero (s : State) : s.blankingRead p 0 s.ports[p].reader = s := by
  have output : (s.outputs[p].carrying fun l => { l with blanking := l.blanking + 0 }) = s.outputs[p] := by
    cases s.outputs[p] <;> simp [Output.carrying]
  rw [State.blankingRead, output, Vector.set_own s.outputs p rfl, Vector.set_own s.ports p rfl]

theorem State.blankingWord_eq (w : FeedWord) (s : State) :
    s.blankingWord p w =
      match (readWord s.ports[p].reader w).2 with
      | none => s.blankingRead p 1 (readWord s.ports[p].reader w).1
      | some k => (s.blankingRead p 1 (readWord s.ports[p].reader w).1).packetArrives p k := by
  unfold State.blankingWord
  simp only [State.updateCarried_eq]
  rfl

/-- One ordinary blanking word that completes no packet. -/
theorem State.plainWord_reads (sync : s.ports[p].sync = .blanking) {w : FeedWord} {r : List FeedWord}
    (h : readWord s.ports[p].reader w = (r, none)) : s.plainWord p w = s.blankingRead p 1 r := by
  rw [State.plainWord_blanking sync, State.blankingWord_eq, h]

/-- One ordinary blanking word that completes the packet `k`. -/
theorem State.plainWord_completes (sync : s.ports[p].sync = .blanking) {w : FeedWord} {k : Packet}
    (h : readWord s.ports[p].reader w = ([], some k)) :
    s.plainWord p w = (s.blankingRead p 1 []).packetArrives p k := by
  rw [State.plainWord_blanking sync, State.blankingWord_eq, h]

theorem readWord_kind (a b w : FeedWord) : readWord [a, b] w = ([a, b, w], none) := rfl

theorem readWord_span (a b kind w : FeedWord) :
    readWord [a, b, kind] w = (if 255 < kind.toNat ∨ 255 < w.toNat then [] else [a, b, kind, w], none) := by
  simp only [readWord, BitVec.lt_def]
  rfl

theorem readWord_payload {a b kind span : FeedWord} {payload : List FeedWord} (h : payload.length < span.toNat)
    (w : FeedWord) : readWord (a :: b :: kind :: span :: payload) w = (a :: b :: kind :: span :: payload ++ [w], none) :=
  if_pos h

theorem readWord_sum {a b kind span : FeedWord} {payload : List FeedWord} (h : span.toNat ≤ payload.length) (w : FeedWord) :
    readWord (a :: b :: kind :: span :: payload) w =
      ([], some { kind := kind.setWidth 8, payload := payload, sum := w }) :=
  if_neg (Nat.not_lt.mpr h)

/-- Two blanking words in succession that complete no packet. -/
theorem forList_plainWord_two (sync : s.ports[p].sync = .blanking) {v w : FeedWord} {r r' : List FeedWord}
    (first : readWord s.ports[p].reader v = (r, none)) (second : readWord r w = (r', none)) :
    forList (State.plainWord p) [v, w] s = s.blankingRead p 2 r' := by
  show (s.plainWord p v).plainWord p w = _
  have port := s.blankingRead_port (p := p) 1 r
  rw [State.plainWord_reads sync first, State.plainWord_reads (by rw [port]; exact sync) (by rw [port]; exact second),
    State.blankingRead_blankingRead]

/-- The words of a payload, as many as the span allows (R6). -/
theorem forList_plainWord_payload (sync : s.ports[p].sync = .blanking) {a b kind span : FeedWord}
    {payload ws : List FeedWord} (reader : s.ports[p].reader = a :: b :: kind :: span :: payload)
    (fits : payload.length + ws.length ≤ span.toNat) :
    forList (State.plainWord p) ws s = s.blankingRead p ws.length (s.ports[p].reader ++ ws) := by
  induction ws generalizing s payload with
  | nil =>
    rw [List.append_nil]
    exact s.blankingRead_zero.symm
  | cons w ws ih =>
    rw [List.length_cons] at fits
    have port := s.blankingRead_port (p := p) 1 (s.ports[p].reader ++ [w])
    have read : s.plainWord p w = s.blankingRead p 1 (s.ports[p].reader ++ [w]) :=
      State.plainWord_reads sync (by rw [reader]; exact readWord_payload (by omega) w)
    rw [forList_cons, read, ih (payload := payload ++ [w]) (by rw [port]; exact sync) (by rw [port, reader]; rfl)
      (by rw [List.length_append, List.length_singleton]; omega), State.blankingRead_blankingRead, port, Nat.add_comm 1,
      List.append_assoc]
    rfl

/-- The words of a packet behind its lead marks: with the last the packet arrives (R6). -/
theorem forList_plainWord_packet (sync : s.ports[p].sync = .blanking) (reader : s.ports[p].reader = leadMarks)
    {k : Packet} (short : k.payload.length ≤ 255) :
    forList (State.plainWord p) (packetTail k.kind k.payload k.sum) s =
      (s.blankingRead p (k.payload.length + 3) []).packetArrives p k := by
  have kind : (k.kind.setWidth 10).toNat = k.kind.toNat := by
    rw [BitVec.toNat_setWidth]
    omega
  have span : (BitVec.ofNat 10 k.payload.length).toNat = k.payload.length := by
    rw [BitVec.toNat_ofNat]
    omega
  have header : forList (State.plainWord p) [k.kind.setWidth 10, BitVec.ofNat 10 k.payload.length] s =
      s.blankingRead p 2 [0x2AA#10, 0x155#10, k.kind.setWidth 10, BitVec.ofNat 10 k.payload.length] := by
    refine forList_plainWord_two sync (by rw [reader]; exact readWord_kind _ _ _) ((readWord_span _ _ _ _).trans ?_)
    rw [if_neg (by omega)]
  rw [packetTail, forList_append, forList_append, header]
  generalize hr : [0x2AA#10, 0x155#10, k.kind.setWidth 10, BitVec.ofNat 10 k.payload.length] = r
  have port := s.blankingRead_port (p := p) 2 r
  have payload : forList (State.plainWord p) k.payload (s.blankingRead p 2 r) =
      s.blankingRead p (2 + k.payload.length) (r ++ k.payload) := by
    rw [forList_plainWord_payload (payload := []) (by rw [port]; exact sync) (by rw [port]; exact hr.symm)
      (by rw [span, List.length_nil]; omega), State.blankingRead_blankingRead, port]
  have port' := s.blankingRead_port (p := p) (2 + k.payload.length) (r ++ k.payload)
  rw [payload]
  show (s.blankingRead p (2 + k.payload.length) (r ++ k.payload)).plainWord p k.sum = _
  have complete : readWord (r ++ k.payload) k.sum = ([], some k) := by
    rw [← hr]
    refine (readWord_sum (payload := k.payload) (by rw [span]) k.sum).trans ?_
    rw [BitVec.setWidth_setWidth_of_le _ (by decide), BitVec.setWidth_eq]
  rw [State.plainWord_completes (by rw [port']; exact sync) (by rw [port']; exact complete),
    State.blankingRead_blankingRead]
  congr 2
  omega

end

theorem State.packetArrives_of_addressed {s : State} {p : Feed} {k : Packet} (h : s.addressed p k = true) :
    s.packetArrives p k = s.commandArrives p k := if_pos h

theorem State.packetArrives_of_decided {s : State} {p : Feed} {k : Packet} (h : s.addressed p k = false) :
    s.packetArrives p k = s.actOnDecision p k (decide? s.rules[p] k) := if_neg (ne_true_of_eq_false h)

/-- Settles O10: the reader's cases (`readWord`) at the port, and `forList_plainWord_packet`. -/
theorem packetsAreReadWordByWord : Obligations.PacketsAreReadWordByWord := by
  unfold Obligations.PacketsAreReadWordByWord
  refine ⟨fun s p w a b kind span payload reads sync held hw hreads => ?_,
    fun s v p k behind sync reader held short plain hv => ⟨?_, State.packetArrives_of_addressed,
      State.packetArrives_of_decided⟩⟩
  · subst hreads
    rw [State.wordsArrive_one held hw]
    refine ⟨fun reader => ?_, fun reader => ?_, fun reader => ?_, fun reader => ?_, fun reader =>
      ⟨fun more => ?_, fun last => ?_⟩⟩
    · exact State.plainWord_reads sync (by rw [reader]; rfl)
    · exact State.plainWord_reads sync (by rw [reader]; rfl)
    · exact State.plainWord_reads sync (by rw [reader]; rfl)
    · exact State.plainWord_reads sync (by rw [reader]; exact readWord_span _ _ _ _)
    · exact State.plainWord_reads sync (by rw [reader]; exact readWord_payload more w)
    · exact State.plainWord_completes sync (by rw [reader]; exact readWord_sum last w)
  · have words : s.wordsArrive p (packetTail k.kind k.payload k.sum ++ behind) =
        forList (State.plainWord p) (packetTail k.kind k.payload k.sum ++ behind) s := State.wordsArrive_plain held plain
    have read : s.blankingRead p (k.payload.length + 3) [] = v := hv.symm
    refine congrArg Host.Outcome.next (words.trans ?_)
    rw [forList_append, forList_plainWord_packet sync reader short, read]

/-- Settles O9, by the words of a picture mark (`State.wordsArrive_mark`) and the packet reader. -/
theorem pictureMarksAndPacketReader : Obligations.PictureMarksAndPacketReader := by
  unfold Obligations.PictureMarksAndPacketReader
  intro s p dt reads shows held hreads hshows
  subst hreads hshows
  have mark : exec (.pictureMark (.bare p) dt) s = .next ((s.elapse dt).markArrives p .picture) :=
    congrArg Host.Outcome.next (((s.elapse dt).arrive_bare p _).trans (State.wordsArrive_mark (s := s.elapse dt) held .picture))
  have leads : exec (.packetBegins (.bare p)) s = .next (forList (State.plainWord p) leadMarks s) :=
    congrArg Host.Outcome.next ((s.arrive_bare p _).trans (State.wordsArrive_plain held (by decide)))
  rw [mark, leads]
  refine ⟨fun blanking => ?_, fun picture => ⟨?_, ?_⟩, fun unsynced => ⟨?_, ?_⟩, fun blanking lone => ?_,
    fun a b kind span payload blanking reader fits => ?_, fun kind span blanking reader high plain => ?_⟩
  · rw [State.markArrives_picture (s := s.elapse dt) blanking, State.pictureMarkArrives, State.updateCarried_eq]
    rfl
  · rw [State.markArrives_picture_of_notBlanking (by rw [State.elapse, picture]; exact nofun),
      forList_plainWord_picture (s := s.elapse dt) _ picture, State.updateCarried_eq]
    rfl
  · rw [forList_plainWord_picture _ picture, State.updateCarried_eq]
    rfl
  · rw [State.markArrives_picture_of_notBlanking (by rw [State.elapse, unsynced]; exact nofun),
      forList_plainWord_unsynced (s := s.elapse dt) _ unsynced]
    rfl
  · rw [forList_plainWord_unsynced _ unsynced]
  · refine congrArg Host.Outcome.next (forList_plainWord_two (r := [0x2AA#10]) blanking ?_ rfl)
    rcases lone with reader | reader <;> rw [reader] <;> rfl
  · refine congrArg Host.Outcome.next (forList_plainWord_payload blanking reader ?_)
    exact fits
  · refine congrArg Host.Outcome.next ((s.arrive_bare p _).trans ((State.wordsArrive_plain held plain).trans ?_))
    refine forList_plainWord_two blanking (by rw [reader]; exact readWord_kind _ _ _) ((readWord_span _ _ _ _).trans ?_)
    rw [if_pos high]

/-! ### The words of a line (R5) -/

theorem Line.openingWords_eq (l : Line) : l.openingWords = l.markerWords ++ packetWords l.placed ++
    List.replicate (l.blanking - (l.placed.map Packet.size).sum) idleWord := by
  rw [Line.openingWords, Line.blankingWords, packetWords_length, List.append_assoc]
  rfl

/-- Idle words that a packet reader at rest takes: the carried line's blanking space grows by each (R5, R6). -/
theorem State.wordsArrive_idle {p : Feed} {s : State} {ws : List FeedWord} (held : s.ports[p].held = .nothing)
    (sync : s.ports[p].sync = .blanking) (reader : s.ports[p].reader = [])
    (idle : ∀ w ∈ ws, w ≠ 0x3FE#10 ∧ w ≠ 0x2AA#10) : s.wordsArrive p ws = s.blankingRead p ws.length [] := by
  induction ws generalizing s with
  | nil => exact (reader ▸ s.blankingRead_zero).symm
  | cons w ws ih =>
    obtain ⟨opening, lead⟩ := idle w List.mem_cons_self
    have port := s.blankingRead_port (p := p) 1 []
    have first : s.wordsArrive p [w] = s.blankingRead p 1 [] := by
      rw [State.wordsArrive_one held opening]
      exact State.plainWord_reads sync (by rw [reader]; exact congrArg (·, none) (if_neg lead))
    rw [← List.singleton_append, State.wordsArrive_append, first,
      ih (by rw [port]; exact held) (by rw [port]; exact sync) (by rw [port])
        fun v hv => idle v (List.mem_cons_of_mem w hv), State.blankingRead_blankingRead]
    rw [List.length_append, List.length_singleton]

theorem Output.carrying_line {l : Line} (carried : l.generated = false) (f : Line → Line) :
    (Output.line l).carrying f = .line (f l) := by
  rw [Output.carrying, carried]
  rfl

/-- Settles O11: the layout of R5 (`Line.openingWords_eq`), and what idle, picture and discarded words do to a line. -/
theorem linesAreWrittenWordForWord : Obligations.LinesAreWrittenWordForWord := by
  unfold Obligations.LinesAreWrittenWordForWord
  refine ⟨fun l black marker blanking hm hb => ?_, fun s p l ws held line carried => ⟨fun sync reader idle => ?_,
    fun picture sync shown plain => ?_⟩, fun s p ws held unsynced plain => ?_⟩
  · have opening : l.openingWords = marker ++ blanking ++
        List.replicate (l.blanking - (l.placed.map Packet.size).sum) 0x080#10 := by
      rw [l.openingWords_eq, hm, hb]
      rfl
    rw [Line.words, opening, Line.pictureWords]
    refine ⟨fun h => ?_, fun picture carried h => ?_, fun generated h => ?_⟩
    · rw [h, List.append_nil]
    · rw [h, carried]
      simp [pictureMarkWords]
    · rw [h, generated]
      simp [pictureMarkWords, blackWord]
  · have port : { s.ports[p] with reader := [] } = s.ports[p] := by rw [← reader]
    rw [State.wordsArrive_idle held sync reader idle, State.blankingRead, line, Output.carrying_line carried,
      Vector.set_own s.ports p port]
  · rw [State.wordsArrive_plain held plain, forList_plainWord_picture ws sync, State.updateCarried_eq, line,
      Output.carrying_line carried, shown]
    rfl
  · rw [State.wordsArrive_plain held plain, forList_plainWord_unsynced ws unsynced]

end Sys2Proof.Machine
end

section
/-! SUPPORT. Line markers and frame markers (R2, R3, R26 to R31), generated lines (R32), and what a feed frame start does at
the four blocks that act on it (R31, R100, R114, R127, R138, R145). -/

namespace Sys2Proof.Machine

/-! ### The words of a line that ends (R5) -/

section
variable {p : Feed} {s : State}

theorem Output.words_dark (black : Nat) : Output.dark.words black = [] := rfl

theorem State.endLine_eq (p : Feed) (s : State) :
    s.endLine p = { s with
      written := if s.outputs[p] = .dark then s.written
        else s.written.set p (s.outputs[p].words (Config.blackWords p s.now)) } := by
  unfold State.endLine
  cases h : s.outputs[p] <;> rfl

theorem State.endLine_written (p : Feed) (s : State) : (s.endLine p).written[p] =
    if s.outputs[p] = .dark then s.written[p] else s.outputs[p].words (Config.blackWords p s.now) := by
  rw [State.endLine_eq]
  show (ite _ s.written _)[p] = _
  split
  · rfl
  · exact vector_set_same _ _ _

theorem State.endLine_written_other {q : Feed} (h : q ≠ p) (s : State) : (s.endLine p).written[q] = s.written[q] := by
  rw [State.endLine_eq]
  show (ite _ s.written _)[q] = _
  split
  · rfl
  · exact vector_set_other _ _ h

/-! ### Line markers -/

/-- The state in which a line marker reaches the path: the loss timer restarted, the port in its blanking space (R2, R3,
R23). -/
def State.lineMeasured (p : Feed) (s : State) : State :=
  { s with
    ports := s.ports.set p s.ports[p].lineMarked
    paths := s.paths.set p { s.paths[p] with lossTimer := some s.now } }

theorem State.lineMarkerArrives_eq (p : Feed) (s : State) :
    s.lineMarkerArrives p = if (s.lineMeasured p).paths[p].timing = .follow then
      ((s.lineMeasured p).endLine p).beginCarriedLine p s.outputs[p].nextIndex false else s.lineMeasured p := rfl

theorem State.lineMeasured_path (p : Feed) (s : State) :
    (s.lineMeasured p).paths[p] = { s.paths[p] with lossTimer := some s.now } := vector_set_same _ _ _

theorem State.lineMarkerArrives_of_follow (h : s.paths[p].timing = .follow) :
    s.lineMarkerArrives p = { s.lineMeasured p with
      written := (s.endLine p).written
      outputs := s.outputs.set p (.line (newLine s.outputs[p].nextIndex s.paths[p].room false false)) } := by
  have room : (s.lineMeasured p).paths[p].room = s.paths[p].room := by rw [State.lineMeasured_path]
  rw [State.lineMarkerArrives_eq, if_pos (by rw [State.lineMeasured_path]; exact h), State.endLine_eq, State.endLine_eq,
    ← room]
  rfl

theorem State.lineMarkerArrives_of_otherwise (h : s.paths[p].timing ≠ .follow) : s.lineMarkerArrives p = s.lineMeasured p := by
  rw [State.lineMarkerArrives_eq, if_neg (by rw [State.lineMeasured_path]; exact h)]

theorem exec_lineMarker_bare (held : s.ports[p].held = .nothing) (dt : Nat) :
    exec (.lineMarker (.bare p) dt) s = .next ((s.elapse dt).lineMarkerArrives p) :=
  congrArg Host.Outcome.next (((s.elapse dt).arrive_bare p _).trans (State.wordsArrive_mark (s := s.elapse dt) held .line))

theorem exec_frameMarker_bare (held : s.ports[p].held = .nothing) (dt : Nat) :
    exec (.frameMarker (.bare p) dt) s = .next ((s.elapse dt).frameMarkerArrives p) :=
  congrArg Host.Outcome.next (((s.elapse dt).arrive_bare p _).trans (State.wordsArrive_mark (s := s.elapse dt) held .frame))

end

/-- Settles O6, by the timing state of the path. -/
theorem lineMarkerBeginsALine : Obligations.LineMarkerBeginsALine := by
  unfold Obligations.LineMarkerBeginsALine
  intro s p dt held
  refine ⟨_, exec_lineMarker_bare held dt, ?_⟩
  by_cases follow : s.paths[p].timing = .follow
  · have arrived := State.lineMarkerArrives_of_follow (s := s.elapse dt) follow
    rw [arrived]
    refine ⟨rfl, vector_set_same _ _ _, vector_set_same _ _ _, fun _ => ⟨vector_set_same _ _ _, State.endLine_written _ _⟩,
      fun other => absurd follow other, fun q hq => ⟨vector_set_other _ _ hq, vector_set_other _ _ hq,
        vector_set_other _ _ hq, State.endLine_written_other hq _⟩⟩
  · have arrived := State.lineMarkerArrives_of_otherwise (s := s.elapse dt) follow
    rw [arrived]
    exact ⟨rfl, vector_set_same _ _ _, vector_set_same _ _ _, fun h => absurd h follow, fun _ => ⟨rfl, rfl⟩,
      fun q hq => ⟨vector_set_other _ _ hq, vector_set_other _ _ hq, rfl, rfl⟩⟩

/-! ### Generated lines -/

section
variable {p : Feed} {s : State} {g : GenFrame}

theorem State.generatedLine_begins (h : s.rasters[p] = some g) (due : g.lineDue s.now = true)
    (mark : s.markWritten p g.begun = true) :
    s.generatedLine p = { s with
      rasters := s.rasters.set p (some { g with next := g.next + 1, begun := s.now })
      written := (s.endLine p).written
      outputs := s.outputs.set p (.line (newLine g.next s.paths[p].room (g.next == 0) true)) } := by
  simp only [State.generatedLine, h, due, mark, Bool.and_self, if_true]
  rw [State.beginGeneratedLine, State.endLine_eq, State.endLine_eq]
  rfl

theorem State.generatedLine_waits (h : s.rasters[p] = some g) (waits : g.lineDue s.now = false ∨ s.markWritten p g.begun = false) :
    s.generatedLine p = s := by
  have wait : (g.lineDue s.now && s.markWritten p g.begun) = false := by
    rcases waits with h | h <;> simp [h]
  simp only [State.generatedLine, h, wait, Bool.false_eq_true, if_false]

theorem GenFrame.lineDue_iff (g : GenFrame) (now : Nat) :
    g.lineDue now = true ↔ g.next < g.lines ∧ g.start * g.lines + g.next * g.period ≤ now * g.lines := by
  simp [GenFrame.lineDue]

theorem State.markWritten_of_line {l : Line} (h : s.outputs[p] = .line l) (begun : Nat) :
    s.markWritten p begun = decide (begun + Config.writingTime p begun l.markEnd ≤ s.now) := by
  simp only [State.markWritten, h]

theorem State.markWritten_of_noLine (h : ∀ l, s.outputs[p] ≠ .line l) (begun : Nat) : s.markWritten p begun = true := by
  unfold State.markWritten
  split
  next l line => exact absurd line (h l)
  next => rfl
  next => rfl

end

/-- Settles O24: the next line is due by R32 (`GenFrame.lineDue_iff`), and its predecessor's picture mark is written. -/
theorem generatedLineBeginsInItsTime : Obligations.GeneratedLineBeginsInItsTime := by
  unfold Obligations.GeneratedLineBeginsInItsTime
  intro s p dt markTime hmark
  subst hmark
  have markEnd : ∀ l : Line, 3 + max l.blanking (l.placed.map Packet.size).sum + 3 = l.markEnd := fun l => l.markEnd_eq.symm
  simp only [markEnd]
  refine ⟨fun g frame more time later marks => ?_, fun g frame waits => ?_, fun g l frame line waits => ?_,
    fun none => ?_⟩
  · have mark : (s.elapse dt).markWritten p g.begun = true := by
      cases h : s.outputs[p] with
      | line l => rw [State.markWritten_of_line (s := s.elapse dt) h]; exact decide_eq_true (marks l h)
      | dark => exact State.markWritten_of_noLine (s := s.elapse dt) (fun l e => Output.noConfusion (h.symm.trans e)) _
      | blackRun ws =>
        exact State.markWritten_of_noLine (s := s.elapse dt) (fun l e => Output.noConfusion (h.symm.trans e)) _
    refine congrArg Host.Outcome.next ((State.generatedLine_begins (s := s.elapse dt) frame
      ((g.lineDue_iff _).mpr ⟨more, time⟩) mark).trans ?_)
    have notFirst : (g.next == 0) = false := beq_false_of_ne (Nat.ne_of_gt later)
    rw [State.endLine_eq, notFirst]
    rfl
  · refine congrArg Host.Outcome.next (State.generatedLine_waits (s := s.elapse dt) frame (.inl ?_))
    refine Bool.eq_false_iff.mpr fun due => ?_
    obtain ⟨more, time⟩ := (g.lineDue_iff _).mp due
    exact waits.elim (Nat.not_le.mpr more) (Nat.not_lt.mpr time)
  · refine congrArg Host.Outcome.next (State.generatedLine_waits (s := s.elapse dt) frame (.inr ?_))
    rw [State.markWritten_of_line (s := s.elapse dt) line]
    exact decide_eq_false (Nat.not_le.mpr waits)
  · exact congrArg Host.Outcome.next (by simp only [State.generatedLine, State.elapse, none])

/-! ### The probe at a frame start -/

/-- Whether a frame start of feed `f` ends the probe's run: it closes the window of the last lane (R145, R147). -/
def Probe.endsAt (f : Feed) (x : Probe) : Bool :=
  match x.run with
  | .measuring lane feed _ => feed == f && x.settings.endsWith lane
  | _ => false

section
variable {f : Feed} {s t : State}

theorem State.probeOpen_notices (f : Feed) (s : State) : (s.probeOpen f).notices = s.notices := by
  unfold State.probeOpen
  split
  · split <;> rfl
  · rfl

theorem Probe.endsAt_of_window {x : Probe} {lane : LaneId} {feed : Feed} {work : ProbeWork}
    (h : x.run = .measuring lane feed work) : x.endsAt f = (feed == f && x.settings.endsWith lane) := by
  simp only [Probe.endsAt, h]

theorem Probe.endsAt_of_noWindow {x : Probe} (h : ∀ l g w, x.run ≠ .measuring l g w) : x.endsAt f = false := by
  unfold Probe.endsAt
  split
  next l g w run => exact absurd run (h l g w)
  next => rfl

theorem State.probeFrameStart_notices (f : Feed) (s : State) :
    (s.probeFrameStart f).notices = if s.probe.endsAt f then (s.raise .probeDone).notices else s.notices := by
  by_cases window : ∃ l g w, s.probe.run = .measuring l g w
  · obtain ⟨lane, feed, work, run⟩ := window
    rw [Probe.endsAt_of_window run]
    by_cases hf : feed = f
    · subst hf
      cases ends : s.probe.settings.endsWith lane with
      | true =>
        rw [State.probeFrameStart_of_ends run ends, beq_self_eq_true]
        rfl
      | false =>
        rw [State.probeFrameStart_of_goesOn run ends, beq_self_eq_true]
        rfl
    · rw [State.probeFrameStart_of_otherWindow run hf, beq_false_of_ne hf]
      rfl
  · have noWindow : ∀ l g w, s.probe.run ≠ .measuring l g w := fun l g w run => window ⟨l, g, w, run⟩
    rw [State.probeFrameStart_of_noWindow noWindow, State.probeOpen_notices, Probe.endsAt_of_noWindow noWindow]
    rfl

theorem State.probeFrameStart_notice_other {n : Notice} (hn : n ≠ .probeDone) (f : Feed) (s : State) :
    (s.probeFrameStart f).notice n = s.notice n := by
  rw [State.notice, State.probeFrameStart_notices]
  split
  · exact State.notice_raise_other s hn
  · rfl

/-- The probe's notice after a frame start is read from the probe and the record. -/
theorem State.probeFrameStart_notice_congr (probe : t.probe = s.probe) (notice : t.notice .probeDone = s.notice .probeDone) :
    (t.probeFrameStart f).notice .probeDone = (s.probeFrameStart f).notice .probeDone := by
  rw [State.notice, State.notice, State.probeFrameStart_notices, State.probeFrameStart_notices, probe]
  split
  · exact (State.notice_raise_same t _).trans ((congrArg (fun r : NoticeRecord =>
      NoticeRecord.mk true ((r.generation + 1) % 256)) notice).trans (State.notice_raise_same s _).symm)
  · exact notice

/-- What a frame start makes of the probe is read from the probe, and from the drains and states of the lanes. -/
theorem State.probeFrameStart_congr (probe : t.probe = s.probe)
    (lanes : ∀ l : LaneId, t.lanes[l].drain = s.lanes[l].drain ∧ t.lanes[l].state = s.lanes[l].state) :
    (t.probeFrameStart f).probe = (s.probeFrameStart f).probe := by
  have opened : ∀ l, t.runOpened f l = s.runOpened f l := fun l => by
    obtain ⟨drain, state⟩ := lanes l
    rw [State.runOpened, State.runOpened, drain, state]
  have runs : t.probe.run = s.probe.run := congrArg Probe.run probe
  cases run : s.probe.run with
  | stopped =>
    have idle : ∀ u : State, u.probe.run = .stopped → u.probeFrameStart f = u := fun u hu =>
      State.probeFrameStart_of_idle (by simp [hu]) (by simp [hu])
    rw [idle s run, idle t (runs.trans run), probe]
  | awaitTick lane =>
    have idle : ∀ u : State, u.probe.run = .awaitTick lane → u.probeFrameStart f = u := fun u hu =>
      State.probeFrameStart_of_idle (by simp [hu]) (by simp [hu])
    rw [idle s run, idle t (runs.trans run), probe]
  | awaitFrame lane =>
    have waits : ∀ u : State, u.probe.run = .awaitFrame lane →
        u.probeFrameStart f = u.setProbe { u.probe with run := u.runOpened f lane } := fun u hu =>
      (State.probeFrameStart_of_noWindow (by simp [hu])).trans (State.probeOpen_of_awaitFrame hu)
    rw [waits s run, waits t (runs.trans run), opened, probe]
    rfl
  | measuring lane feed work =>
    have run' : t.probe.run = .measuring lane feed work := (congrArg Probe.run probe).trans run
    by_cases hf : feed = f
    · subst hf
      cases ends : s.probe.settings.endsWith lane with
      | true =>
        rw [State.probeFrameStart_of_ends run ends, State.probeFrameStart_of_ends run' (by rw [probe, ends]), probe]
        rfl
      | false =>
        rw [State.probeFrameStart_of_goesOn run ends, State.probeFrameStart_of_goesOn run' (by rw [probe, ends]), opened,
          probe]
        rfl
    · rw [State.probeFrameStart_of_otherWindow run hf, State.probeFrameStart_of_otherWindow run' hf, probe]

end

/-! ### A feed frame start at the four blocks (R31) -/

section
variable (p : Feed) (lines : Nat) (s : State)

theorem Lane.corrected_state (x : Lane) : x.corrected.state = x.state := by
  unfold Lane.corrected
  split <;> rfl

theorem State.probeFrameStart_carriage : (s.probeFrameStart p).carriage = s.carriage := by rw [State.probeFrameStart_frame]

theorem State.probeFrameStart_routes : (s.probeFrameStart p).routes = s.routes := by rw [State.probeFrameStart_frame]

theorem State.probeFrameStart_lanes : (s.probeFrameStart p).lanes = s.lanes := by rw [State.probeFrameStart_frame]

theorem State.probeFrameStart_regulators : (s.probeFrameStart p).regulators = s.regulators := by
  rw [State.probeFrameStart_frame]

theorem State.regulate_carriage : (s.regulate p).carriage = s.carriage := by rw [State.regulate_frame]

theorem State.regulate_routes : (s.regulate p).routes = s.routes := by rw [State.regulate_frame]

theorem State.regulate_probe : (s.regulate p).probe = s.probe := by rw [State.regulate_frame]

theorem State.carriageFrameStart_routes : (s.carriageFrameStart p lines).routes = s.routes := by
  rw [State.carriageFrameStart_frame]

theorem State.carriageFrameStart_probe : (s.carriageFrameStart p lines).probe = s.probe := by
  rw [State.carriageFrameStart_frame]

theorem State.carriageFrameStart_lanes : (s.carriageFrameStart p lines).lanes = s.lanes := by
  rw [State.carriageFrameStart_frame]

theorem State.carriageFrameStart_regulators : (s.carriageFrameStart p lines).regulators = s.regulators := by
  rw [State.carriageFrameStart_frame]

theorem State.feedFrameStart_carriage : (s.feedFrameStart p lines).carriage = (s.carriageFrameStart p lines).carriage := by
  rw [State.feedFrameStart, State.probeFrameStart_carriage, State.routeFrameStart, State.setRoute_carriage,
    State.regulate_carriage]

theorem State.feedFrameStart_carriage_same : (s.feedFrameStart p lines).carriage[p] =
    s.carriage[p].frameStart s.paths[p].fn s.paths[p].fd s.paths[p].quiet lines := by
  rw [State.feedFrameStart_carriage]
  exact State.carriageFrameStart_carriage_same p lines s

theorem State.feedFrameStart_carriage_other {q : Feed} (hq : q ≠ p) :
    (s.feedFrameStart p lines).carriage[q] = s.carriage[q] := by
  rw [State.feedFrameStart_carriage]
  exact State.carriageFrameStart_carriage_other p lines s hq

theorem State.routeFrameStart_regulated_lanes :
    (((s.carriageFrameStart p lines).regulate p).routeFrameStart p).lanes =
      ((s.carriageFrameStart p lines).regulate p).lanes := by
  rw [State.routeFrameStart, State.setRoute_lanes]

theorem State.feedFrameStart_lanes :
    (s.feedFrameStart p lines).lanes = ((s.carriageFrameStart p lines).regulate p).lanes := by
  rw [State.feedFrameStart, State.probeFrameStart_lanes, State.routeFrameStart_regulated_lanes]

theorem State.feedFrameStart_regulators :
    (s.feedFrameStart p lines).regulators = ((s.carriageFrameStart p lines).regulate p).regulators := by
  rw [State.feedFrameStart, State.probeFrameStart_regulators, State.routeFrameStart, State.setRoute_regulators]

/-- The lanes and their records after a frame start (R114). -/
theorem State.feedFrameStart_lane (l : LaneId) :
    (s.feedFrameStart p lines).lanes[l] = (if s.lanes[l].drain = p then s.lanes[l].corrected else s.lanes[l]) ∧
      (s.feedFrameStart p lines).regulators[l] =
        if s.lanes[l].drain = p then s.regulators[l].captured s.lanes[l] else s.regulators[l] := by
  have lanes := State.carriageFrameStart_lanes p lines s
  have regulators := State.carriageFrameStart_regulators p lines s
  rw [State.feedFrameStart_lanes, State.feedFrameStart_regulators]
  split
  next h =>
    obtain ⟨lane, regulator⟩ := State.regulate_of_feed (p := p) (s := s.carriageFrameStart p lines) (by rw [lanes]; exact h)
    rw [lane, regulator, lanes, regulators]
    exact ⟨rfl, rfl⟩
  next h =>
    obtain ⟨lane, regulator⟩ := State.regulate_of_otherFeed (p := p) (s := s.carriageFrameStart p lines) (by rw [lanes]; exact h)
    rw [lane, regulator, lanes, regulators]
    exact ⟨rfl, rfl⟩

theorem State.feedFrameStart_routes : (s.feedFrameStart p lines).routes =
    s.routes.set p (if s.routes[p].swapPending then s.routes[p].swapped else s.routes[p]).shifted := by
  rw [State.feedFrameStart, State.probeFrameStart_routes, State.routeFrameStart, State.setRoute_routes,
    State.regulate_routes, State.carriageFrameStart_routes]

/-- The route state after a frame start: a pending swap is taken and the collision flags shift (R127, R138). -/
theorem State.feedFrameStart_route_same : (s.feedFrameStart p lines).routes[p] =
    (if s.routes[p].swapPending then s.routes[p].swapped else s.routes[p]).shifted := by
  rw [State.feedFrameStart_routes]
  exact vector_set_same _ _ _

theorem State.feedFrameStart_route_other {q : Feed} (hq : q ≠ p) : (s.feedFrameStart p lines).routes[q] = s.routes[q] := by
  rw [State.feedFrameStart_routes]
  exact vector_set_other _ _ hq

theorem State.routeFrameStart_probe_before :
    (((s.carriageFrameStart p lines).regulate p).routeFrameStart p).probe = s.probe := by
  rw [State.routeFrameStart, State.setRoute_probe, State.regulate_probe, State.carriageFrameStart_probe]

theorem State.feedFrameStart_probe : (s.feedFrameStart p lines).probe = (s.probeFrameStart p).probe := by
  refine State.probeFrameStart_congr (State.routeFrameStart_probe_before p lines s) fun l => ?_
  obtain ⟨lane, -⟩ := State.feedFrameStart_lane p lines s l
  rw [State.feedFrameStart_lanes] at lane
  rw [State.routeFrameStart_regulated_lanes, lane]
  split
  · exact ⟨Lane.corrected_drain _, Lane.corrected_state _⟩
  · exact ⟨rfl, rfl⟩

theorem State.feedFrameStart_notices_before :
    (((s.carriageFrameStart p lines).regulate p).routeFrameStart p).notices =
      (if 8 < s.carriage[p].closedOwed then s.raise (.carriageShortfall p) else s).notices := by
  rw [State.routeFrameStart, State.setRoute_notices, State.regulate_notices, State.carriageFrameStart_notices]

theorem State.feedFrameStart_notice_other {n : Notice} (shortfall : n ≠ .carriageShortfall p) (probe : n ≠ .probeDone) :
    (s.feedFrameStart p lines).notice n = s.notice n := by
  rw [State.feedFrameStart, State.probeFrameStart_notice_other probe,
    State.notice_congr (State.feedFrameStart_notices_before p lines s)]
  split
  · exact State.notice_raise_other s shortfall
  · rfl

theorem State.feedFrameStart_notice_shortfall :
    (s.feedFrameStart p lines).notice (.carriageShortfall p) =
      if 8 < s.carriage[p].closedOwed then
        { raised := true, generation := ((s.notice (.carriageShortfall p)).generation + 1) % 256 }
      else s.notice (.carriageShortfall p) := by
  rw [State.feedFrameStart, State.probeFrameStart_notice_other (by nofun),
    State.notice_congr (State.feedFrameStart_notices_before p lines s)]
  split
  · exact State.notice_raise_same s _
  · rfl

theorem State.feedFrameStart_notice_probeDone :
    (s.feedFrameStart p lines).notice .probeDone = (s.probeFrameStart p).notice .probeDone := by
  refine State.probeFrameStart_notice_congr (State.routeFrameStart_probe_before p lines s) ?_
  · rw [State.notice_congr (State.feedFrameStart_notices_before p lines s)]
    split
    · exact State.notice_raise_other s (by nofun)
    · rfl

theorem State.carriageFrameStart_notice_shortfall :
    (s.carriageFrameStart p lines).notice (.carriageShortfall p) =
      if 8 < s.carriage[p].closedOwed then
        { raised := true, generation := ((s.notice (.carriageShortfall p)).generation + 1) % 256 }
      else s.notice (.carriageShortfall p) := by
  rw [State.notice_congr (State.carriageFrameStart_notices p lines s)]
  split
  · exact State.notice_raise_same s _
  · rfl

end

/-! ### Frame markers -/

section
variable {p : Feed} {s : State}

theorem State.compareRaster_frame (p : Feed) (a b : Option Nat) (s : State) :
    s.compareRaster p a b = { s with notices := (s.compareRaster p a b).notices } := by
  unfold State.compareRaster
  split
  · split <;> rfl
  · rfl

theorem State.compareRaster_notice_other {n : Notice} (h : n ≠ .rasterChange p) (a b : Option Nat) (s : State) :
    (s.compareRaster p a b).notice n = s.notice n := by
  unfold State.compareRaster
  split
  · split
    · rfl
    · exact State.notice_raise_other s h
  · rfl

/-- A change of L is raised (R29). -/
theorem State.compareRaster_of_change {a b : Nat} (h : a ≠ b) (s : State) :
    s.compareRaster p (some a) (some b) = s.raise (.rasterChange p) := if_neg h

theorem State.compareRaster_of_same {a b : Option Nat} (h : a = none ∨ a = b) (s : State) : s.compareRaster p a b = s := by
  rcases h with rfl | rfl
  · rfl
  · cases a with
    | none => rfl
    | some a => exact if_pos rfl

/-- The state in which a frame marker reaches the path timing unit: the loss timer restarted, L measured and compared
(R3, R23, R29). -/
def State.frameMeasured (p : Feed) (s : State) : State :=
  State.compareRaster p s.ports[p].measuredL s.ports[p].frameMarked.measuredL { s with
    ports := s.ports.set p s.ports[p].frameMarked
    paths := s.paths.set p { s.paths[p] with lossTimer := some s.now } }

theorem State.frameMarkerArrives_eq (p : Feed) (s : State) :
    s.frameMarkerArrives p = (s.frameMeasured p).deliverFrameMarker p s.ports[p].frameMarked.measuredL := rfl

theorem State.frameMeasured_frame (p : Feed) (s : State) :
    s.frameMeasured p = { s with
      ports := s.ports.set p s.ports[p].frameMarked
      paths := s.paths.set p { s.paths[p] with lossTimer := some s.now }
      notices := (s.frameMeasured p).notices } := State.compareRaster_frame _ _ _ _

theorem State.frameMeasured_path (p : Feed) (s : State) :
    (s.frameMeasured p).paths[p] = { s.paths[p] with lossTimer := some s.now } := by
  rw [State.frameMeasured_frame]
  exact vector_set_same _ _ _

theorem State.frameMeasured_path_other {q : Feed} (h : q ≠ p) (s : State) : (s.frameMeasured p).paths[q] = s.paths[q] := by
  rw [State.frameMeasured_frame]
  exact vector_set_other _ _ h

theorem State.frameMeasured_notice_other {n : Notice} (h : n ≠ .rasterChange p) (s : State) :
    (s.frameMeasured p).notice n = s.notice n := State.compareRaster_notice_other h _ _ _

/-- The state in which line 0 of a frame begins at an input frame marker, before the four blocks act (R21, R27, R33, R37). -/
def State.carriedFrameBegun (p : Feed) (s : State) : State :=
  { s with
    written := (s.endAtMarker p).written
    paths := s.paths.set p { s.paths[p] with
      inForce := s.paths[p].requested, timing := .follow, resumePending := false }
    rasters := s.rasters.set p none
    outputs := s.outputs.set p (.line (newLine 0 s.paths[p].room true false)) }

theorem State.inputFrameStart_eq (p : Feed) (lines : Nat) (s : State) :
    s.inputFrameStart p lines = (s.carriedFrameBegun p).feedFrameStart p lines := by
  unfold State.inputFrameStart State.beginCarriedLine State.takeMode State.carriedFrameBegun
  rw [State.endAtMarker_frame]
  simp only [State.setPath, State.setRaster, State.setOutput, vector_set_same, Vector.set_set]

theorem State.deliverFrameMarker_of_lost {lines : Nat} (h : s.paths[p].timing = .lost) :
    s.deliverFrameMarker p (some lines) =
      (s.setPath p { s.paths[p] with timing := .recovered }).raise (.inputReturned p) := by
  simp only [State.deliverFrameMarker, h]

theorem State.deliverFrameMarker_stays {lines : Nat} (timing : s.paths[p].timing = .recovered)
    (normal : s.paths[p].inForce = .normal) (resume : s.paths[p].resumePending = false) :
    s.deliverFrameMarker p (some lines) = s := by
  have stays : ¬(s.paths[p].inForce = .bypass ∨ s.paths[p].resumePending = true) := by
    rw [normal, resume]
    exact nofun
  simp only [State.deliverFrameMarker, timing, if_neg stays]

theorem State.deliverFrameMarker_starts {lines : Nat} (h : s.paths[p].timing = .follow ∨
    s.paths[p].timing = .recovered ∧ (s.paths[p].inForce = .bypass ∨ s.paths[p].resumePending = true)) :
    s.deliverFrameMarker p (some lines) = (s.carriedFrameBegun p).feedFrameStart p lines := by
  rw [← State.inputFrameStart_eq]
  rcases h with follow | ⟨recovered, starts⟩
  · simp only [State.deliverFrameMarker, follow]
  · simp only [State.deliverFrameMarker, recovered, if_pos starts]

theorem State.endAtMarker_written_other {q : Feed} (h : q ≠ p) (s : State) :
    (s.endAtMarker p).written[q] = s.written[q] := by
  unfold State.endAtMarker
  split
  · exact State.endLine_written_other h s
  · exact State.cutLine_written_other h s

/-- What a frame marker leaves of feeds, timers and rasters, wherever it leads the path. -/
structure FrameDelivered (p : Feed) (s t : State) : Prop where
  now : t.now = s.now
  ports : t.ports = s.ports
  lossTimer : t.paths[p].lossTimer = s.paths[p].lossTimer
  others : ∀ q : Feed, q ≠ p → t.paths[q] = s.paths[q] ∧ t.outputs[q] = s.outputs[q] ∧ t.written[q] = s.written[q]
  rasterChange : ∀ q : Feed, t.notice (.rasterChange q) = s.notice (.rasterChange q)

theorem State.carriedFrame_delivered (p : Feed) (lines : Nat) (s : State) :
    FrameDelivered p s ((s.carriedFrameBegun p).feedFrameStart p lines) := by
  have frame := State.feedFrameStart_frame (s.carriedFrameBegun p) p lines
  refine ⟨by rw [frame]; rfl, by rw [frame]; rfl, ?_, fun q hq => ⟨?_, ?_, ?_⟩,
    fun q => State.feedFrameStart_notice_other p lines _ (by nofun) (by nofun)⟩
  · rw [frame]
    show (s.paths.set p _)[p].lossTimer = _
    rw [vector_set_same]
  · rw [frame]
    exact vector_set_other _ _ hq
  · rw [frame]
    exact vector_set_other _ _ hq
  · rw [frame]
    exact State.endAtMarker_written_other hq s

theorem State.deliverFrameMarker_delivered (p : Feed) (measured : Option Nat) (s : State) :
    FrameDelivered p s (s.deliverFrameMarker p measured) := by
  have stands : FrameDelivered p s s := ⟨rfl, rfl, rfl, fun _ _ => ⟨rfl, rfl, rfl⟩, fun _ => rfl⟩
  unfold State.deliverFrameMarker
  split
  · exact stands
  next lines =>
    split
    · refine ⟨rfl, rfl, ?_, fun q hq => ⟨State.setPath_other _ _ _ hq, rfl, rfl⟩, fun q =>
        State.notice_raise_other _ (by nofun)⟩
      show (s.paths.set p _)[p].lossTimer = _
      rw [vector_set_same]
    · split
      · rw [State.inputFrameStart_eq]
        exact s.carriedFrame_delivered p lines
      · exact stands
    · rw [State.inputFrameStart_eq]
      exact s.carriedFrame_delivered p lines

theorem Port.frameMarked_eq {x : Port} (held : x.held = .nothing) :
    x.frameMarked =
      { sync := .blanking, reader := [], held := .nothing, lineCount := 1, framesSeen := min 2 (x.framesSeen + 1)
        measuredL := if x.framesSeen = 0 then x.measuredL else some x.lineCount } := by
  rw [Port.frameMarked, held]

theorem Port.frameMarked_measured_of_seen {x : Port} (h : x.framesSeen ≠ 0) :
    x.frameMarked.measuredL = some x.lineCount := if_neg h

theorem Port.frameMarked_measured_of_unseen {x : Port} (h : x.framesSeen = 0) :
    x.frameMarked.measuredL = x.measuredL := if_pos h

end

/-- Settles O7: the state that the marker reaches the path timing unit in (`State.frameMeasured`), and where it leads a path
that begins no frame. -/
theorem frameMarkerMeasuresAndCompares : Obligations.FrameMarkerMeasuresAndCompares := by
  unfold Obligations.FrameMarkerMeasuresAndCompares
  intro s p dt held
  have seen : ((s.elapse dt).frameMeasured p).ports = s.ports.set p s.ports[p].frameMarked := by
    rw [State.frameMeasured_frame]
    rfl
  have frame := State.frameMeasured_frame p (s.elapse dt)
  have path := State.frameMeasured_path p (s.elapse dt)
  obtain ⟨now, ports, lossTimer, others, raster⟩ :=
    ((s.elapse dt).frameMeasured p).deliverFrameMarker_delivered p s.ports[p].frameMarked.measuredL
  have executed : exec (.frameMarker (.bare p) dt) s =
      .next (((s.elapse dt).frameMeasured p).deliverFrameMarker p s.ports[p].frameMarked.measuredL) :=
    exec_frameMarker_bare held dt
  refine ⟨_, executed, ?_⟩
  have portsEq := ports.trans seen
  have port : ((s.elapse dt).frameMeasured p |>.deliverFrameMarker p s.ports[p].frameMarked.measuredL).ports[p].measuredL =
      s.ports[p].frameMarked.measuredL := by
    rw [portsEq, vector_set_same]
  refine ⟨?now, ?ports, ?timer, fun q hq => ?others, fun a b before after differ => ?raised, fun same => ?quiet,
    fun q hq => ?otherFeeds, fun unseen unmeasured lost => ?unmeasured, fun measured lost => ?returns,
    fun measured recovered normal noResume => ?stays⟩
  case now =>
    rw [now, frame]
    rfl
  case ports => rw [portsEq, Port.frameMarked_eq held]
  case timer => rw [lossTimer, path]; rfl
  case others =>
    obtain ⟨paths, outputs, written⟩ := others q hq
    rw [paths, outputs, written, State.frameMeasured_path_other hq, frame]
    exact ⟨rfl, rfl, rfl⟩
  case raised =>
    have measured : s.ports[p].frameMarked.measuredL = some b := port.symm.trans after
    rw [raster, State.frameMeasured]
    show State.notice (State.compareRaster p s.ports[p].measuredL s.ports[p].frameMarked.measuredL _) _ = _
    rw [before, measured, State.compareRaster_of_change differ]
    exact State.notice_raise_same _ _
  case quiet =>
    have same' : s.ports[p].measuredL = none ∨ s.ports[p].measuredL = s.ports[p].frameMarked.measuredL :=
      same.imp_right fun h => h.trans port
    rw [raster, State.frameMeasured]
    show State.notice (State.compareRaster p s.ports[p].measuredL s.ports[p].frameMarked.measuredL _) _ = _
    rw [State.compareRaster_of_same same']
    rfl
  case otherFeeds =>
    rw [raster, State.frameMeasured_notice_other fun e => hq (Notice.rasterChange.inj e)]
    rfl
  case unmeasured =>
    have none_measured : s.ports[p].frameMarked.measuredL = none := (Port.frameMarked_measured_of_unseen unseen).trans unmeasured
    have still : (s.elapse dt).frameMeasured p = { s with
        now := s.now + dt
        ports := s.ports.set p s.ports[p].frameMarked
        paths := s.paths.set p { s.paths[p] with lossTimer := some (s.now + dt) } } :=
      State.compareRaster_of_same (.inl unmeasured) _
    rw [none_measured, State.deliverFrameMarker, still]
    exact ⟨rfl, vector_set_same _ _ _⟩
  case returns =>
    have lost' : ((s.elapse dt).frameMeasured p).paths[p].timing = .lost := by rw [path]; exact lost
    rw [Port.frameMarked_measured_of_seen measured, State.deliverFrameMarker_of_lost lost']
    refine ⟨?_, ?_, ?_, fun n hreturn hraster => ?_⟩
    · rw [frame]
      rfl
    · refine (State.setPath_same _ _ _).trans ?_
      rw [path]
      rfl
    · have record : ((s.elapse dt).frameMeasured p).notice (.inputReturned p) = s.notice (.inputReturned p) :=
        State.frameMeasured_notice_other (by nofun) _
      rw [State.notice_raise_same, ← record]
      rfl
    · rw [State.notice_raise_other _ hreturn]
      exact State.frameMeasured_notice_other hraster _
  case stays =>
    rw [Port.frameMarked_measured_of_seen measured, State.deliverFrameMarker_stays (by rw [path]; exact recovered)
      (by rw [path]; exact normal) (by rw [path]; exact noResume)]
    refine ⟨?_, path, fun n hn => State.frameMeasured_notice_other hn _⟩
    rw [frame]
    rfl

/-- What a feed frame start makes of the route state of its feed, field by field (R127, R138). -/
theorem Route.frameStarted (r : Route) :
    (if r.swapPending then r.swapped else r).shifted.live = (if r.swapPending then r.shadow else r.live) ∧
    (if r.swapPending then r.swapped else r).shifted.shadow = r.shadow ∧
    (if r.swapPending then r.swapped else r).shifted.swapPending = false ∧
    (if r.swapPending then r.swapped else r).shifted.clips = r.clips ∧
    (if r.swapPending then r.swapped else r).shifted.seenLast = r.seenThis ∧
    ∀ x : Slot, (if r.swapPending then r.swapped else r).shifted.seenThis[x] = false := by
  have cleared : ∀ x : Slot, (Vector.replicate 8 false)[x] = false := vector_replicate_get false
  cases pending : r.swapPending
  · exact ⟨rfl, rfl, pending, rfl, rfl, cleared⟩
  · exact ⟨rfl, rfl, rfl, rfl, rfl, cleared⟩

/-- The words that an input frame marker leaves on its output (R33, R131). -/
theorem State.endAtMarker_written (p : Feed) (s : State) :
    (s.endAtMarker p).written[p] = match s.outputs[p] with
      | .dark => s.written[p]
      | .line l => if s.paths[p].timing = .follow then l.words (Config.blackWords p s.now)
          else (l.words (Config.blackWords p s.now)).take (Config.wordsWritten p s.now)
      | .blackRun ws => ws ++ List.replicate (Config.blackWords p s.now) blackWord := by
  by_cases follow : s.paths[p].timing = .follow
  · have ends : s.endAtMarker p = s.endLine p := by simp only [State.endAtMarker, follow]
    rw [ends, State.endLine_written]
    cases h : s.outputs[p] with
    | dark => exact if_pos rfl
    | line l => exact (if_neg nofun).trans (if_pos follow).symm
    | blackRun ws => exact if_neg nofun
  · have cuts : s.endAtMarker p = s.cutLine p := by
      unfold State.endAtMarker
      split
      · contradiction
      · rfl
    rw [cuts, State.cutLine_written]
    cases s.outputs[p] with
    | dark => rfl
    | line l => exact (if_neg follow).symm
    | blackRun ws => rfl

/-- Settles O8: the state in which line 0 begins (`State.carriedFrameBegun`), and what the four blocks make of it. -/
theorem frameMarkerFrameStart : Obligations.FrameMarkerFrameStart := by
  unfold Obligations.FrameMarkerFrameStart
  intro s p dt held measured starts
  have frame := State.frameMeasured_frame p (s.elapse dt)
  have path := State.frameMeasured_path p (s.elapse dt)
  generalize hm : (s.elapse dt).frameMeasured p = m at frame path
  have starts' : m.paths[p].timing = .follow ∨
      m.paths[p].timing = .recovered ∧ (m.paths[p].inForce = .bypass ∨ m.paths[p].resumePending = true) := by
    rw [path]
    exact starts
  have executed : exec (.frameMarker (.bare p) dt) s =
      .next ((m.carriedFrameBegun p).feedFrameStart p s.ports[p].lineCount) := by
    rw [exec_frameMarker_bare held, State.frameMarkerArrives_eq, hm]
    exact congrArg Host.Outcome.next ((congrArg (State.deliverFrameMarker p · m)
      (Port.frameMarked_measured_of_seen measured)).trans (State.deliverFrameMarker_starts starts'))
  have whole := State.feedFrameStart_frame (m.carriedFrameBegun p) p s.ports[p].lineCount
  have lanes := State.feedFrameStart_lane p s.ports[p].lineCount (m.carriedFrameBegun p)
  have notices : ∀ n, n ≠ .rasterChange p → m.notice n = s.notice n := fun n hn => by
    rw [← hm, State.frameMeasured_notice_other hn]
    rfl
  have sameLanes : (m.carriedFrameBegun p).lanes = s.lanes := (congrArg State.lanes frame :)
  have sameRegulators : (m.carriedFrameBegun p).regulators = s.regulators := (congrArg State.regulators frame :)
  have sameRoutes : (m.carriedFrameBegun p).routes = s.routes := (congrArg State.routes frame :)
  have sameCarriage : (m.carriedFrameBegun p).carriage = s.carriage := (congrArg State.carriage frame :)
  have sameProbe : (m.carriedFrameBegun p).probe = s.probe := (congrArg State.probe frame :)
  have sameOutputs : m.outputs = s.outputs := by rw [frame]; rfl
  have sameNow : m.now = s.now + dt := by rw [frame]; rfl
  have words := State.endAtMarker_written p m
  rw [sameOutputs, sameNow, path] at words
  have written : (m.carriedFrameBegun p).written = (m.endAtMarker p).written := rfl
  have startedPaths := (congrArg State.paths whole :)
  have startedRasters := (congrArg State.rasters whole :)
  have startedOutputs := (congrArg State.outputs whole :)
  have startedWritten := (congrArg State.written whole :)
  have sameWritten : m.written = s.written := by rw [frame]; rfl
  have begunPath : (m.carriedFrameBegun p).paths[p] = { m.paths[p] with
      inForce := m.paths[p].requested, timing := .follow, resumePending := false } := vector_set_same _ _ _
  refine ⟨_, executed, ?frame, ?path, ?raster, ?output, fun l line => ?words, fun ws run => ?black, fun dark => ?dark,
    ?carriage, ?live, ?shadow, ?swap, ?clips, ?seenLast, fun x => ?seenThis, fun l drain => ?draining,
    fun l drain => ?standing, ?probe, ?probeDone, ?shortfall, fun n raster shortfall probe => ?notices, fun q hq => ?others⟩
  case frame =>
    clear * - whole frame
    generalize (m.carriedFrameBegun p).feedFrameStart p s.ports[p].lineCount = t at whole
    rw [whole, State.carriedFrameBegun, frame]
    rfl
  case path =>
    rw [startedPaths]
    refine begunPath.trans ?_
    rw [path]
    rfl
  case raster =>
    rw [whole]
    exact vector_set_same _ _ _
  case output =>
    rw [startedOutputs]
    refine (vector_set_same _ _ _).trans ?_
    rw [path]
    rfl
  case words =>
    rw [startedWritten, written, words, line]
    rfl
  case black =>
    rw [startedWritten, written, words, run]
    rfl
  case dark =>
    rw [startedWritten, written, words, dark, sameWritten]
  case carriage =>
    rw [State.feedFrameStart_carriage_same, begunPath, path]
    rw [sameCarriage]
    rfl
  case probe =>
    rw [State.feedFrameStart_probe]
    refine State.probeFrameStart_congr sameProbe fun l => ?_
    rw [sameLanes]
    exact ⟨rfl, rfl⟩
  case probeDone =>
    rw [State.feedFrameStart_notice_probeDone]
    exact State.probeFrameStart_notice_congr sameProbe (notices .probeDone (by nofun))
  case shortfall =>
    rw [State.feedFrameStart_notice_shortfall, State.carriageFrameStart_notice_shortfall, sameCarriage]
    have record := notices (.carriageShortfall p) (by nofun)
    rw [← record]
    rfl
  case notices => exact (State.feedFrameStart_notice_other _ _ _ shortfall probe).trans (notices n raster)
  case draining =>
    obtain ⟨lane, regulator⟩ := lanes l
    rw [sameLanes, if_pos drain] at lane regulator
    rw [lane, regulator, sameRegulators]
    exact ⟨rfl, rfl⟩
  case standing =>
    obtain ⟨lane, regulator⟩ := lanes l
    rw [sameLanes, if_neg drain] at lane regulator
    rw [lane, regulator, sameRegulators]
    exact ⟨rfl, rfl⟩
  case others =>
    rw [State.feedFrameStart_carriage_other p _ _ hq, State.feedFrameStart_route_other p _ _ hq, sameCarriage, sameRoutes,
      startedPaths, startedRasters, startedOutputs, startedWritten, written]
    refine ⟨?_, ?_, ?_, ?_, rfl, rfl⟩
    · refine (vector_set_other _ _ hq).trans ?_
      rw [← hm]
      exact State.frameMeasured_path_other hq _
    · exact (vector_set_other _ _ hq).trans (by rw [frame]; rfl)
    · exact (vector_set_other _ _ hq).trans (by rw [sameOutputs])
    · exact (State.endAtMarker_written_other hq m).trans (by rw [frame]; rfl)
  all_goals
    rw [State.feedFrameStart_route_same, sameRoutes]
    obtain ⟨live, shadow, swap, clips, seenLast, seenThis⟩ := s.routes[p].frameStarted
  case live => exact live
  case shadow => exact shadow
  case swap => exact swap
  case clips => exact clips
  case seenLast => exact seenLast
  case seenThis => exact seenThis x

end Sys2Proof.Machine
end

section
/-! SUPPORT. Loss of feed (R23 to R25, R68): the loss timer, and what the entry into LOST leaves. -/

namespace Sys2Proof.Machine

theorem timerDue_none (span now : Nat) : timerDue none span now = false := rfl

theorem timerDue_some (restarted span now : Nat) : timerDue (some restarted) span now = true ↔ restarted + span ≤ now :=
  decide_eq_true_iff

/-- Settles O17: the three cases of the loss timer that enter no loss. -/
theorem lossTimerOutsideLoss : Obligations.LossTimerOutsideLoss := by
  unfold Obligations.LossTimerOutsideLoss
  intro s p dt
  have early (h : timerDue s.paths[p].lossTimer lossTime (s.now + dt) = false) :
      exec (.lossTimerExpiry p dt) s = .next { s with now := s.now + dt } := by
    show (if timerDue s.paths[p].lossTimer lossTime (s.now + dt) = true then _ else _) = _
    rw [h]
    rfl
  refine ⟨fun stopped => early (by rw [stopped]; rfl), fun restarted running notDue => early ?_,
    fun restarted running due lost => ?_⟩
  · rw [running, ← Bool.not_eq_true, timerDue_some]
    exact Nat.not_le.mpr notDue
  · have expired : timerDue s.paths[p].lossTimer lossTime (s.now + dt) = true := by
      rw [running]
      exact (timerDue_some _ _ _).mpr due
    have timing : ((s.elapse dt).setPath p { s.paths[p] with lossTimer := none }).paths[p].timing = .lost := by
      rw [State.setPath_same]
      exact lost
    show (if timerDue s.paths[p].lossTimer lossTime (s.now + dt) = true then
      Host.Outcome.next ((s.elapse dt).lossExpired p) else _) = _
    rw [expired, if_pos rfl]
    refine congrArg Host.Outcome.next ?_
    simp only [State.lossExpired]
    split
    · rfl
    next h => exact Timing.noConfusion (timing.symm.trans h)
    next h => exact Timing.noConfusion (timing.symm.trans h)

/-! ### The entry into LOST -/

/-- The part at an entry into LOST of path `p`, before the streams of its input leave the table (R25, R33, R138). -/
def State.lossEntered (p : Feed) (s : State) : State :=
  { s with
    outputs := (s.outputAtLoss p).outputs
    written := (s.outputAtLoss p).written
    paths := s.paths.set p { s.paths[p] with timing := .lost, resumePending := false }
    ports := s.ports.set p
      { sync := .unsynced, lineCount := 0, framesSeen := 0, measuredL := none, reader := [], held := s.ports[p].held }
    routes := s.routes.set p s.routes[p].flagsCleared }

theorem State.enterLost_eq (p : Feed) (s : State) :
    s.enterLost p = ((s.lossEntered p).removeWhere fun e => e.source.feed == p).raise (.inputLost p) := by
  have entered : ((((s.outputAtLoss p).setPath p
        { (s.outputAtLoss p).paths[p] with timing := .lost, resumePending := false }).portUnsynced p).setRoute p
      ((s.outputAtLoss p).setPath p
        { (s.outputAtLoss p).paths[p] with timing := .lost, resumePending := false }).routes[p].flagsCleared) =
      s.lossEntered p := by
    rw [State.outputAtLoss_frame]
    rfl
  exact congrArg (fun u : State => (u.removeWhere fun e => e.source.feed == p).raise (.inputLost p)) entered

theorem State.lossExpired_of_notLost {p : Feed} {s : State} (h : s.paths[p].timing ≠ .lost) :
    s.lossExpired p = (s.setPath p { s.paths[p] with lossTimer := none }).enterLost p := by
  have timing : (s.setPath p { s.paths[p] with lossTimer := none }).paths[p].timing ≠ .lost := by
    rw [State.setPath_same]
    exact h
  simp only [State.lossExpired]
  split
  next lost => exact absurd lost timing
  · rfl
  · rfl

section
variable {p : Feed} {s : State}

theorem State.outputAtLoss_of_bypass (h : s.paths[p].inForce = .bypass) :
    s.outputAtLoss p = (s.cutLine p).setOutput p .dark := by
  simp only [State.outputAtLoss, h]

theorem State.outputAtLoss_of_recovered (normal : s.paths[p].inForce = .normal) (recovered : s.paths[p].timing = .recovered) :
    s.outputAtLoss p = s := by
  simp only [State.outputAtLoss, normal, recovered]

theorem State.outputAtLoss_of_follow {l : Line} (normal : s.paths[p].inForce = .normal) (follow : s.paths[p].timing = .follow)
    (line : s.outputs[p] = .line l) :
    s.outputAtLoss p = s.setOutput p (.blackRun (l.cutWords (Config.wordsWritten p s.now))) := by
  simp only [State.outputAtLoss, normal, follow, line]

theorem State.outputAtLoss_written_of_normal (normal : s.paths[p].inForce = .normal) :
    (s.outputAtLoss p).written = s.written := by
  unfold State.outputAtLoss
  split
  next bypass => exact Mode.noConfusion (normal.symm.trans bypass)
  · split <;> rfl
  · rfl

theorem State.outputAtLoss_other {q : Feed} (h : q ≠ p) (s : State) :
    (s.outputAtLoss p).outputs[q] = s.outputs[q] ∧ (s.outputAtLoss p).written[q] = s.written[q] := by
  unfold State.outputAtLoss
  split
  · refine ⟨(vector_set_other _ _ h).trans ?_, State.cutLine_written_other h s⟩
    rw [State.cutLine_frame]
  · split
    · exact ⟨vector_set_other _ _ h, rfl⟩
    · exact ⟨rfl, rfl⟩
  · exact ⟨rfl, rfl⟩

end

/-! ### The streams of a lost input -/

section
variable (p : Feed) (s : State)

/-- After the streams of input `p` have left the table, a stream is valid when it was and is of another input (R68). -/
theorem State.hasStream_freeFeed (x : Source) :
    (s.freeWhere fun e => e.source.feed == p).hasStream x = true ↔ x.feed ≠ p ∧ s.hasStream x = true := by
  rw [State.hasStream_freeWhere, State.hasStream_iff]
  refine ⟨fun ⟨i, e, entry, stays, source⟩ => ?_, fun ⟨other, i, e, entry, source⟩ => ⟨i, e, entry, ?_, source⟩⟩
  · exact ⟨source ▸ beq_eq_false_iff_ne.mp stays, i, e, entry, source⟩
  · rw [source]
    exact beq_eq_false_iff_ne.mpr other

theorem State.mem_sourcesOfFeed (x : Source) :
    x ∈ s.sourcesWhere (fun e => e.source.feed == p) ↔ x.feed = p ∧ s.hasStream x = true := by
  rw [State.mem_sourcesWhere, State.hasStream_iff]
  refine ⟨fun ⟨i, e, entry, picked, source⟩ => ?_, fun ⟨own, i, e, entry, source⟩ => ⟨i, e, entry, ?_, source⟩⟩
  · exact ⟨source ▸ beq_iff_eq.mp picked, i, e, entry, source⟩
  · rw [source]
    exact beq_iff_eq.mpr own

/-- A lane turns to its backup at the loss of input `p`: it is on a primary of that input, and its backup stays valid (R88,
R89, R68). -/
def State.TurnsAtLoss (l : LaneId) : Prop :=
  s.lanes[l].active = .primary ∧ ∃ x y : Source, s.lanes[l].primary = some x ∧ s.lanes[l].backup = some y ∧
    x.feed = p ∧ s.hasStream x = true ∧ y.feed ≠ p ∧ s.hasStream y = true

theorem State.turnsAtLoss_iff (l : LaneId) :
    (∃ x ∈ s.sourcesWhere (fun e => e.source.feed == p),
      s.lanes[l].primary = some x ∧ (s.freeWhere fun e => e.source.feed == p).failsOver l = true) ↔ s.TurnsAtLoss p l := by
  simp only [State.mem_sourcesOfFeed, State.failsOver_iff]
  have sameLane : (s.freeWhere fun e => e.source.feed == p).lanes[l] = s.lanes[l] := rfl
  rw [sameLane]
  refine ⟨fun ⟨x, ⟨own, valid⟩, primary, active, _, _, backup⟩ => ?_, fun ⟨active, x, y, primary, backup, own, valid, other, ready⟩ => ?_⟩
  · cases hb : s.lanes[l].backup with
    | none =>
      rw [hb] at backup
      exact Bool.noConfusion backup
    | some y =>
      rw [hb] at backup
      obtain ⟨other, ready⟩ := (State.hasStream_freeFeed p s y).mp backup
      exact ⟨active, x, y, primary, hb, own, valid, other, ready⟩
  · refine ⟨x, ⟨own, valid⟩, primary, active, ?_, ?_, ?_⟩
    · rw [primary]
      rfl
    · rw [primary]
      exact Bool.eq_false_iff.mpr fun still => ((State.hasStream_freeFeed p s x).mp still).1 own
    · rw [backup]
      exact (State.hasStream_freeFeed p s y).mpr ⟨other, ready⟩

theorem State.turnsAtLoss_congr {s t : State} (lanes : t.lanes = s.lanes) (streams : t.streams = s.streams) (l : LaneId) :
    t.TurnsAtLoss p l ↔ s.TurnsAtLoss p l := by
  simp only [State.TurnsAtLoss, State.hasStream, State.findStream, lanes, streams]

end

/-- A lane of which one of the three conditions of R88 fails does not turn. -/
theorem State.not_turnsAtLoss {p : Feed} {s : State} {l : LaneId}
    (h : s.lanes[l].active = .backup ∨
      (∀ x, s.lanes[l].primary = some x → x.feed ≠ p ∨ s.hasStream x = false) ∨
      (∀ y, s.lanes[l].backup = some y → y.feed = p ∨ s.hasStream y = false)) : ¬s.TurnsAtLoss p l := by
  rintro ⟨active, x, y, primary, backup, own, valid, other, ready⟩
  rcases h with onBackup | noPrimary | noBackup
  · exact Active.noConfusion (active.symm.trans onBackup)
  · exact (noPrimary x primary).elim (fun h => h own) fun h => Bool.noConfusion (valid.symm.trans h)
  · exact (noBackup y backup).elim other fun h => Bool.noConfusion (ready.symm.trans h)

/-- Settles O18: the entry (`State.lossEntered`), the entries made free, and the lanes that turn (`State.removeWhere_turn`). -/
theorem lossOfFeedRemovesItsStreams : Obligations.LossOfFeedRemovesItsStreams := by
  unfold Obligations.LossOfFeedRemovesItsStreams
  intro s p dt restarted running due notLost
  have expired : timerDue s.paths[p].lossTimer lossTime (s.now + dt) = true := by
    rw [running]
    exact (timerDue_some _ _ _).mpr due
  have executed : exec (.lossTimerExpiry p dt) s = .next ((s.elapse dt).lossExpired p) := by
    show (if timerDue s.paths[p].lossTimer lossTime (s.now + dt) = true then
      Host.Outcome.next ((s.elapse dt).lossExpired p) else _) = _
    rw [expired, if_pos rfl]
  have expiry := State.lossExpired_of_notLost (p := p) (s := s.elapse dt) notLost
  rw [State.enterLost_eq] at expiry
  have stopped : ∃ u : State, u = (s.elapse dt).setPath p { (s.elapse dt).paths[p] with lossTimer := none } := ⟨_, rfl⟩
  obtain ⟨u, hu⟩ := stopped
  rw [← hu] at expiry
  have path : u.paths[p] = { s.paths[p] with lossTimer := none } := by
    rw [hu]
    exact vector_set_same _ _ _
  have rest : u = { s with now := s.now + dt, paths := s.paths.set p { s.paths[p] with lossTimer := none } } := hu
  have inForce : u.paths[p].inForce = s.paths[p].inForce := by rw [path]
  have timing : u.paths[p].timing = s.paths[p].timing := by rw [path]
  have turn := (State.removeWhere_turn (fun e => e.source.feed == p) (u.lossEntered p)).of_iff
    (fun l => ((u.lossEntered p).turnsAtLoss_iff p l).trans (State.turnsAtLoss_congr p (t := u.lossEntered p) (s := s)
      (by rw [State.lossEntered, rest]) (by rw [State.lossEntered, rest]) l)) fun l => Iff.rfl
  generalize (u.lossEntered p).removeWhere (fun e => e.source.feed == p) = r at expiry turn
  have frame := turn.eq
  have base : ∀ n, ((u.lossEntered p).freeWhere fun e => e.source.feed == p).notice n = s.notice n :=
    fun n => State.notice_congr (by rw [rest]; rfl) n
  have paths := (congrArg State.paths frame :)
  have ports := (congrArg State.ports frame :)
  have streams := (congrArg State.streams frame :)
  have count := (congrArg State.tableCount frame :)
  have routes := (congrArg State.routes frame :)
  have outputs : r.outputs = (u.outputAtLoss p).outputs := (congrArg State.outputs frame :)
  have written : r.written = (u.outputAtLoss p).written := (congrArg State.written frame :)
  have sameOutputs : u.outputs = s.outputs := (congrArg State.outputs rest :)
  have sameWritten : u.written = s.written := (congrArg State.written rest :)
  have sameNow : u.now = s.now + dt := (congrArg State.now rest :)
  have route : r.routes[p] = s.routes[p].flagsCleared := by
    rw [routes, rest]
    exact vector_set_same _ _ _
  have flags : ∀ x : Slot, (Vector.replicate 8 false)[x] = false := vector_replicate_get false
  refine ⟨r.raise (.inputLost p), executed.trans (congrArg Host.Outcome.next expiry), ?whole, ?path, ?port, fun i => ?stream,
    ?count, ?lost, fun x => ?flags, ?live, ?shadow, ?clips, ?swap, fun q hq => ?others, fun bypass => ?bypass,
    fun normal => ?normal, fun normal recovered => ?recovered, fun l normal follow line => ?follow,
    fun l x y active primary backup own valid other ready => ?fails, fun l stays => ?stands, ?window, fun n hlost hfail => ?quiet⟩
  case whole =>
    rw [State.raise_frame, frame, rest]
    rfl
  case path =>
    rw [State.raise_paths, paths]
    refine (congrArg (Vector.set u.paths p · p.isLt) (by rw [path])).trans ?_
    rw [rest]
    exact Vector.set_set _ _
  case port =>
    rw [State.raise_ports, ports, rest]
    rfl
  case stream =>
    rw [State.raise_streams, streams, rest]
    exact State.freeWhere_streams _ s i
  case count =>
    rw [State.raise_tableCount, count, rest, ← State.sourcesWhere_length]
    rfl
  case lost =>
    rw [State.notice_raise_same, turn.quiet _ fun l _ => by nofun, base]
  case others =>
    obtain ⟨output, words⟩ := State.outputAtLoss_other hq u
    rw [State.raise_routes, State.raise_outputs, State.raise_written, outputs, written, output, words, sameOutputs, sameWritten,
      routes, rest]
    exact ⟨vector_set_other _ _ hq, rfl, rfl⟩
  case bypass =>
    have stops := State.outputAtLoss_of_bypass (inForce.trans bypass)
    rw [State.raise_outputs, State.raise_written, outputs, written, stops]
    have words := u.cutLine_written p
    refine ⟨vector_set_same _ _ _, fun dark => ?_, fun l line => ?_⟩
    · have still : u.cutLine p = u := by simp only [State.cutLine, sameOutputs, dark]
      rw [still]
      exact sameWritten
    · rw [sameOutputs, line, sameNow] at words
      exact words
  case normal =>
    rw [State.raise_written, written, State.outputAtLoss_written_of_normal (inForce.trans normal), sameWritten]
  case recovered =>
    rw [State.raise_outputs, outputs, State.outputAtLoss_of_recovered (inForce.trans normal) (timing.trans recovered),
      sameOutputs]
  case follow =>
    rw [State.raise_outputs, outputs, State.outputAtLoss_of_follow (inForce.trans normal) (timing.trans follow)
      ((congrArg (fun v : Vector Output 8 => v[p]) sameOutputs).trans line), sameNow]
    exact vector_set_same _ _ _
  case fails =>
    obtain ⟨lane, raised⟩ := turn.failed l ⟨active, x, y, primary, backup, own, valid, other, ready⟩
    rw [State.raise_lanes, lane, State.notice_raise_other _ (by nofun), raised, base, rest]
    exact ⟨rfl, rfl⟩
  case stands =>
    have stays' := State.not_turnsAtLoss stays
    rw [State.raise_lanes, turn.stood l stays' id, State.notice_raise_other _ (by nofun),
      turn.quiet _ fun m turns e => stays' (by rw [Notice.laneFailover.inj e]; exact turns), base, rest]
    exact ⟨rfl, rfl⟩
  case window =>
    exact (turn.window.of_iff fun l => iff_of_eq (or_false _)).of_probe (by rw [rest]; rfl) rfl
  case quiet =>
    rw [State.notice_raise_other _ hlost, turn.quiet n fun l _ => hfail l, base]
  all_goals rw [State.raise_routes, route]
  case flags => exact ⟨flags x, flags x⟩
  case live => rfl
  case shadow => rfl
  case clips => rfl
  case swap => rfl

end Sys2Proof.Machine
end

section
/-! SUPPORT. What the sets of a packet, and the removal and the addition that it causes, make of one lane (R80 to R83, R88 to
R91): `LaneView` is a lane with its two notices, and every operation of the lane store acts on each view by itself. -/

namespace Sys2Proof.Machine

/-! ### A lane and its notices -/

/-- A lane, with the records of its overrun and of its failover. -/
structure LaneView where
  lane : Lane
  overrun : NoticeRecord
  failover : NoticeRecord

def State.laneView (s : State) (l : LaneId) : LaneView :=
  { lane := s.lanes[l], overrun := s.notice (.laneOverrun l), failover := s.notice (.laneFailover l) }

/-- One set of stream `x` at a view (R80, R82); `State.storeSet_laneView` ties it to the model. -/
def LaneView.storeOne (x : Source) (v : LaneView) (c : CheckedSet) : LaneView :=
  if v.lane.activeStream = some x then
    if v.lane.fifo.length < 2048 then { v with lane := v.lane.append c }
    else { v with lane := { v.lane with overrunTally := tally 1 v.lane.overrunTally }, overrun := v.overrun.raise }
  else v

/-- Sets of stream `x` at a view (R80). -/
def LaneView.store (x : Source) (sets : List CheckedSet) (v : LaneView) : LaneView := sets.foldl (LaneView.storeOne x) v

/-- A view of which the lane is emptied by a failover (R89). -/
def LaneView.failedOver (v : LaneView) : LaneView :=
  { v with lane := v.lane.emptied .backup .priming, failover := v.failover.raise }

/-- A view of which the lane is emptied by a return (R91). -/
def LaneView.backHome (v : LaneView) : LaneView := { v with lane := v.lane.emptied .primary .priming }

section
variable {s t : State} {l : LaneId}

theorem State.laneView_lane : (s.laneView l).lane = s.lanes[l] := rfl

theorem State.laneView_of_same (lane : t.lanes[l] = s.lanes[l]) (overrun : t.notice (.laneOverrun l) = s.notice (.laneOverrun l))
    (failover : t.notice (.laneFailover l) = s.notice (.laneFailover l)) : t.laneView l = s.laneView l := by
  rw [State.laneView, lane, overrun, failover]
  rfl

/-! ### Sets at a lane (R80, R82) -/

theorem State.storeSet_laneView (x : Source) (l : LaneId) (c : CheckedSet) (s : State) :
    (s.storeSet x l c).laneView l = (s.laneView l).storeOne x c := by
  by_cases onStream : s.lanes[l].activeStream = some x
  · by_cases room : s.lanes[l].fifo.length < 2048
    · rw [State.storeSet_room c onStream room, LaneView.storeOne, State.laneView_lane, if_pos onStream, if_pos room,
        State.laneView, State.setLane_same]
      rfl
    · rw [State.storeSet_full c onStream (Nat.not_lt.mp room), LaneView.storeOne, State.laneView_lane, if_pos onStream,
        if_neg room, State.laneView, State.raise_lanes, State.setLane_same, State.notice_raise_same,
        State.notice_raise_other _ (by nofun)]
      rfl
  · rw [State.storeSet_otherStream c onStream, LaneView.storeOne, State.laneView_lane, if_neg onStream]

theorem State.storeSet_laneView_other (x : Source) {n : LaneId} (h : n ≠ l) (c : CheckedSet) (s : State) :
    (s.storeSet x l c).laneView n = s.laneView n := by
  by_cases onStream : s.lanes[l].activeStream = some x
  · by_cases room : s.lanes[l].fifo.length < 2048
    · rw [State.storeSet_room c onStream room]
      exact State.laneView_of_same (vector_set_other _ _ h) rfl rfl
    · rw [State.storeSet_full c onStream (Nat.not_lt.mp room)]
      exact State.laneView_of_same (vector_set_other _ _ h)
        (State.notice_raise_other _ fun e => h (Notice.laneOverrun.inj e)) (State.notice_raise_other _ (by nofun))
  · rw [State.storeSet_otherStream c onStream]

theorem State.storeSets_laneView (x : Source) (l : LaneId) (sets : List CheckedSet) (s : State) :
    (s.storeSets x l sets).laneView l = (s.laneView l).store x sets := by
  induction sets generalizing s with
  | nil => rfl
  | cons c cs ih =>
    refine (ih (s.storeSet x l c)).trans ?_
    rw [State.storeSet_laneView]
    rfl

theorem State.storeAll_laneView (x : Source) (sets : List CheckedSet) (l : LaneId) (s : State) :
    (s.storeAll x sets).laneView l = (s.laneView l).store x sets :=
  forEach_turn (fun t => t.laneView l = s.laneView l) (fun t => t.laneView l = (s.laneView l).store x sets) _ s l rfl
    (fun _ t h before => (forList_same (fun t => t.laneView l) _ sets t fun c _ u =>
      State.storeSet_laneView_other x (Ne.symm h) c u).trans before)
    (fun t before => (t.storeSets_laneView x l sets).trans (by rw [before]))
    fun _ t h behind => (forList_same (fun t => t.laneView l) _ sets t fun c _ u =>
      State.storeSet_laneView_other x (Ne.symm h) c u).trans behind

theorem State.storeSet_notice_other {n : Notice} (h : ∀ m, n ≠ .laneOverrun m) (x : Source) (l : LaneId) (c : CheckedSet)
    (s : State) : (s.storeSet x l c).notice n = s.notice n := by
  by_cases onStream : s.lanes[l].activeStream = some x
  · by_cases room : s.lanes[l].fifo.length < 2048
    · rw [State.storeSet_room c onStream room]
      rfl
    · rw [State.storeSet_full c onStream (Nat.not_lt.mp room)]
      exact State.notice_raise_other _ (h l)
  · rw [State.storeSet_otherStream c onStream]

theorem State.storeSet_frame (x : Source) (l : LaneId) (c : CheckedSet) (s : State) :
    s.storeSet x l c = { s with lanes := (s.storeSet x l c).lanes, notices := (s.storeSet x l c).notices } := by
  by_cases onStream : s.lanes[l].activeStream = some x
  · by_cases room : s.lanes[l].fifo.length < 2048
    · rw [State.storeSet_room c onStream room]
      rfl
    · rw [State.storeSet_full c onStream (Nat.not_lt.mp room)]
      rfl
  · rw [State.storeSet_otherStream c onStream]

theorem State.storeAll_notice_other {n : Notice} (h : ∀ m, n ≠ .laneOverrun m) (x : Source) (sets : List CheckedSet)
    (s : State) : (s.storeAll x sets).notice n = s.notice n :=
  forEach_same (fun t => t.notice n) _ s fun l t => forList_same (fun t => t.notice n) _ sets t fun c _ u =>
    State.storeSet_notice_other h x l c u

theorem State.storeAll_frame (x : Source) (sets : List CheckedSet) (s : State) :
    s.storeAll x sets = { s with lanes := (s.storeAll x sets).lanes, notices := (s.storeAll x sets).notices } :=
  forEach_keeps (fun t => t = { s with lanes := t.lanes, notices := t.notices }) _ s rfl fun l t ht =>
    forList_keeps (fun t => t = { s with lanes := t.lanes, notices := t.notices }) _ sets t ht fun c _ u hu => by
      refine (u.storeSet_frame x l c).trans ?_
      generalize u.storeSet x l c = w
      rw [hu]

end

section
variable {x : Source} {v : LaneView}

theorem LaneView.store_append (x : Source) (a b : List CheckedSet) (v : LaneView) :
    v.store x (a ++ b) = (v.store x a).store x b := List.foldl_append

theorem LaneView.storeOne_of_otherStream (h : v.lane.activeStream ≠ some x) (c : CheckedSet) : v.storeOne x c = v := if_neg h

theorem LaneView.store_of_otherStream (h : v.lane.activeStream ≠ some x) (sets : List CheckedSet) : v.store x sets = v := by
  induction sets with
  | nil => rfl
  | cons c cs ih =>
    rw [LaneView.store, List.foldl_cons, LaneView.storeOne_of_otherStream h]
    exact ih

/-- A lane with room for every set appends them in order (R82). -/
theorem LaneView.store_of_room (onStream : v.lane.activeStream = some x) (sets : List CheckedSet)
    (room : v.lane.fifo.length + sets.length ≤ 2048) : v.store x sets = { v with lane := sets.foldl Lane.append v.lane } := by
  induction sets generalizing v with
  | nil => rfl
  | cons c cs ih =>
    rw [List.length_cons] at room
    have one : v.storeOne x c = { v with lane := v.lane.append c } := by
      rw [LaneView.storeOne, if_pos onStream, if_pos (by omega)]
    have fill : (v.lane.append c).fifo.length = v.lane.fifo.length + 1 := List.length_append
    rw [LaneView.store, List.foldl_cons, one]
    exact ih (v := { v with lane := v.lane.append c }) onStream (by dsimp only; omega)

/-- What a set at a lane leaves: the descriptor, the active source and the record of its failover. -/
structure LaneView.Keeps (v w : LaneView) : Prop where
  primary : w.lane.primary = v.lane.primary
  backup : w.lane.backup = v.lane.backup
  autoReturn : w.lane.autoReturn = v.lane.autoReturn
  active : w.lane.active = v.lane.active
  failover : w.failover = v.failover

theorem LaneView.Keeps.activeStream {v w : LaneView} (h : v.Keeps w) : w.lane.activeStream = v.lane.activeStream := by
  simp only [Lane.activeStream, h.active, h.primary, h.backup]

theorem LaneView.Keeps.trans {u v w : LaneView} (h : u.Keeps v) (h' : v.Keeps w) : u.Keeps w :=
  ⟨h'.primary.trans h.primary, h'.backup.trans h.backup, h'.autoReturn.trans h.autoReturn, h'.active.trans h.active,
    h'.failover.trans h.failover⟩

theorem LaneView.storeOne_keeps (x : Source) (c : CheckedSet) (v : LaneView) : v.Keeps (v.storeOne x c) := by
  unfold LaneView.storeOne
  split
  · split <;> exact ⟨rfl, rfl, rfl, rfl, rfl⟩
  · exact ⟨rfl, rfl, rfl, rfl, rfl⟩

theorem LaneView.store_keeps (x : Source) (sets : List CheckedSet) (v : LaneView) : v.Keeps (v.store x sets) := by
  induction sets generalizing v with
  | nil => exact ⟨rfl, rfl, rfl, rfl, rfl⟩
  | cons c cs ih => exact (v.storeOne_keeps x c).trans (ih (v.storeOne x c))

end

/-! ### The packet that is decided (R46, R48, R50) -/

/-- A decided packet reaches the watch of its action entry, when it has one (R50). -/
def State.watchReached (p : Feed) (action : Option RuleIndex) (s : State) : State :=
  action.elim s fun e => s.reachWatch p e

/-- The part with a packet decided: its watch is reached, its slot is noted, and it stands on the carried line. Whether it is
taken is still open. -/
def State.decisionNoted (p : Feed) (k : Packet) (d : Decision) (u : State) : State :=
  ((u.watchReached p d.action).noteSeen p k d).handToLine p { packet := k, origin := .decided d.strip k.good }

/-- The part with a packet read and decided. -/
def State.packetNoted (p : Feed) (k : Packet) (s : State) : State :=
  (s.blankingRead p (k.payload.length + 3) []).decisionNoted p k (decide? s.rules[p] k)

theorem exec_packetComplete_bare {s : State} {p : Feed} {k : Packet} (h : s.Reading p k) :
    exec (.packetComplete (.bare p) k.kind k.payload k.sum) s =
      .next ((s.blankingRead p (k.payload.length + 3) []).packetArrives p k) := by
  obtain ⟨sync, reader, held, short, plain⟩ := h
  refine congrArg Host.Outcome.next ((State.arrive_bare p _ s).trans ?_)
  exact (State.wordsArrive_plain held plain).trans (forList_plainWord_packet sync reader short)

section
variable {s : State} {p : Feed} {k : Packet}

theorem State.actOnDecision_eq (p : Feed) (k : Packet) (d : Decision) (u : State) :
    u.actOnDecision p k d =
      if k.kind = kindCarriage ∧ k.good = true ∧ d.take = true then
        (readCarriage k.payload).elim (u.decisionNoted p k d) fun c =>
          (u.decisionNoted p k d).takePacket { feed := p, slot := c.slot } c
      else u.decisionNoted p k d := by
  obtain ⟨decider, action, strip, take⟩ := d
  unfold State.actOnDecision State.decisionNoted State.watchReached
  cases action <;> cases readCarriage k.payload <;> rfl

theorem exec_packetComplete_of_decided (h : s.Reading p k) (decided : s.addressed p k = false) :
    exec (.packetComplete (.bare p) k.kind k.payload k.sum) s =
      .next (if k.kind = kindCarriage ∧ k.good = true ∧ (decide? s.rules[p] k).take = true then
        (readCarriage k.payload).elim (s.packetNoted p k)
          fun c => (s.packetNoted p k).takePacket { feed := p, slot := c.slot } c
        else s.packetNoted p k) := by
  rw [exec_packetComplete_bare h, State.packetArrives_of_decided (p := p) (k := k)
    (s := s.blankingRead p (k.payload.length + 3) []) decided, State.actOnDecision_eq]
  rfl

theorem State.reachWatch_frame (p : Feed) (e : RuleIndex) (s : State) :
    s.reachWatch p e = { s with rules := (s.reachWatch p e).rules, notices := (s.reachWatch p e).notices } :=
  State.eq_of_veilRules fun d => State.reachWatch_veil d p e s

/-- The record of an entry's watch, with the record of its tally notice, at a decided packet (R50, R52, R53). -/
theorem State.reachWatch_other (p : Feed) (e : RuleIndex) {q : Feed} {d : RuleIndex} (h : q ≠ p ∨ d ≠ e) (s : State) :
    (s.reachWatch p e).rules[q][d] = s.rules[q][d] := by
  unfold State.reachWatch State.settleTally State.reportTally
  dsimp only
  split
  · rfl
  · exact State.setRule_other _ _ _ _ h
  · split
    · exact (State.setRule_other _ _ _ _ h).trans (State.setRule_other _ _ _ _ h)
    · exact State.setRule_other _ _ _ _ h

theorem State.reachWatch_notice_other (p : Feed) (e : RuleIndex) {n : Notice} (h : n ≠ .tallyReached p e) (s : State) :
    (s.reachWatch p e).notice n = s.notice n := by
  unfold State.reachWatch State.settleTally State.reportTally
  dsimp only
  split
  · rfl
  · rfl
  · split
    · exact State.notice_raise_other _ h
    · rfl

theorem State.reachWatch_of_idle {e : RuleIndex} (h : s.rules[p][e].watchMode = .idle) : s.reachWatch p e = s := by
  simp only [State.reachWatch, h]

theorem State.reachWatch_of_absence {e : RuleIndex} (h : s.rules[p][e].watchMode = .absence) :
    s.reachWatch p e = s.setRule p e { s.rules[p][e] with watchCount := 0, watchState := .armed } := by
  simp only [State.reachWatch, h]

theorem State.reachWatch_of_tally {e : RuleIndex} (h : s.rules[p][e].watchMode = .tally) :
    s.reachWatch p e =
      (s.setRule p e { s.rules[p][e] with watchCount := s.rules[p][e].watchCount + 1 }).settleTally p e := by
  simp only [State.reachWatch, h]

theorem State.tallyBelow {e : RuleIndex} (h : s.rules[p][e].watchMode = .tally)
    (below : s.rules[p][e].watchCount + 1 ≠ s.rules[p][e].watchLimit) :
    s.reachWatch p e = s.setRule p e { s.rules[p][e] with watchCount := s.rules[p][e].watchCount + 1 } := by
  rw [State.reachWatch_of_tally h, State.settleTally, State.setRule_same, RuleEntry.tallyReached]
  refine if_neg fun reached => below ?_
  exact beq_iff_eq.mp (Bool.and_eq_true_iff.mp reached).2

theorem State.tallyMet {e : RuleIndex} (h : s.rules[p][e].watchMode = .tally)
    (met : s.rules[p][e].watchCount + 1 = s.rules[p][e].watchLimit) :
    (s.reachWatch p e).rules[p][e] = { s.rules[p][e] with watchCount := 0 } ∧
      (s.reachWatch p e).notice (.tallyReached p e) =
        { raised := true, generation := ((s.notice (.tallyReached p e)).generation + 1) % 256 } := by
  have reached : ({ s.rules[p][e] with watchCount := s.rules[p][e].watchCount + 1 } : RuleEntry).tallyReached = true :=
    Bool.and_eq_true_iff.mpr ⟨beq_iff_eq.mpr h, beq_iff_eq.mpr met⟩
  rw [State.reachWatch_of_tally h, State.settleTally, State.setRule_same, if_pos reached, State.reportTally,
    State.setRule_same]
  exact ⟨State.setRule_same _ _ _ _, State.notice_raise_same _ _⟩

theorem State.watchReached_frame (p : Feed) (a : Option RuleIndex) (s : State) :
    s.watchReached p a = { s with rules := (s.watchReached p a).rules, notices := (s.watchReached p a).notices } := by
  cases a with
  | none => rfl
  | some e => exact s.reachWatch_frame p e

theorem State.watchReached_other (p : Feed) {a : Option RuleIndex} {q : Feed} {d : RuleIndex} (h : q ≠ p ∨ a ≠ some d)
    (s : State) : (s.watchReached p a).rules[q][d] = s.rules[q][d] ∧
      (s.watchReached p a).notice (.tallyReached q d) = s.notice (.tallyReached q d) := by
  cases a with
  | none => exact ⟨rfl, rfl⟩
  | some e =>
    refine ⟨State.reachWatch_other p e (h.imp_right fun h e => h (by rw [e])) s, State.reachWatch_notice_other p e (fun same => ?_) s⟩
    obtain ⟨feed, entry⟩ := Notice.tallyReached.inj same
    exact h.elim (· feed) (· (by rw [entry]))

theorem State.watchReached_notice_other (p : Feed) (a : Option RuleIndex) {n : Notice}
    (h : ∀ (q : Feed) (d : RuleIndex), n ≠ .tallyReached q d) (s : State) : (s.watchReached p a).notice n = s.notice n := by
  cases a with
  | none => rfl
  | some e => exact State.reachWatch_notice_other p e (h p e) s

/-! ### The collision flag (R138) -/

/-- Whether a decided packet marks slot `x` as seen this frame (R138). -/
def marksSlot (k : Packet) (d : Decision) (t : Timing) (x : Slot) : Bool :=
  k.kind == kindCarriage && k.good && !d.strip && t == .follow && (k.payload.head?.map fun head => head.toNat % 8) == some x.val

theorem State.noteSeen_frame (p : Feed) (k : Packet) (d : Decision) (s : State) :
    s.noteSeen p k d = { s with routes := (s.noteSeen p k d).routes } := by
  unfold State.noteSeen
  split
  · rfl
  · split <;> rfl

theorem State.noteSeen_route_other (k : Packet) (d : Decision) {q : Feed} (h : q ≠ p) (s : State) :
    (s.noteSeen p k d).routes[q] = s.routes[q] := by
  unfold State.noteSeen
  split
  · rfl
  · split
    · exact vector_set_other _ _ h
    · rfl

/-- The route state of the feed of a decided packet: the flag of the packet's slot is the one thing that may change. -/
theorem State.noteSeen_route_same (k : Packet) (d : Decision) (s : State) :
    (s.noteSeen p k d).routes[p] = { s.routes[p] with seenThis := (s.noteSeen p k d).routes[p].seenThis } ∧
      ∀ x : Slot, (s.noteSeen p k d).routes[p].seenThis[x] =
        (s.routes[p].seenThis[x] || marksSlot k d s.paths[p].timing x) := by
  by_cases noted : passedCarriage k d = true ∧ s.paths[p].timing = .follow
  · obtain ⟨passed, follow⟩ := noted
    have carriage : k.kind = kindCarriage :=
      beq_iff_eq.mp (Bool.and_eq_true_iff.mp (Bool.and_eq_true_iff.mp passed).1).1
    have marks : ∀ x : Slot, marksSlot k d s.paths[p].timing x =
        ((k.payload.head?.map fun head => head.toNat % 8) == some x.val) := fun x => by
      have all : (k.kind == kindCarriage && k.good && !d.strip) = true := passed
      simp only [marksSlot, all, follow, beq_self_eq_true, Bool.true_and]
    cases hp : k.payload with
    | nil =>
      have slot : k.slot? = none := (Packet.slot?_eq_none_iff k).mpr (.inr hp)
      have stands : s.noteSeen p k d = s := by simp only [State.noteSeen, slot]
      rw [stands]
      refine ⟨rfl, fun x => ?_⟩
      rw [marks, hp]
      exact (Bool.or_false _).symm
    | cons head rest =>
      have slot := Packet.slot?_of_head carriage hp
      have seen : s.noteSeen p k d = s.setRoute p (s.routes[p].seen (headSlot head)) := by
        simp only [State.noteSeen, slot, if_pos (And.intro passed follow)]
      rw [seen, State.setRoute_same]
      refine ⟨rfl, fun x => ?_⟩
      have marked : marksSlot k d s.paths[p].timing x = (head.toNat % 8 == x.val) := by
        rw [marks, hp]
        exact (Option.some_beq_some ..)
      rw [marked]
      by_cases own : x = headSlot head
      · subst own
        have mark : (head.toNat % 8 == (headSlot head).val) = true := beq_iff_eq.mpr (headSlot_val head).symm
        rw [mark, Bool.or_true]
        exact vector_set_same _ _ _
      · have mark : (head.toNat % 8 == x.val) = false :=
          beq_eq_false_iff_ne.mpr fun e => own (Fin.ext (e.symm.trans (headSlot_val head).symm))
        rw [mark, Bool.or_false]
        exact vector_set_other _ _ own
  · have stands : s.noteSeen p k d = s := by
      unfold State.noteSeen
      split
      · rfl
      · exact if_neg noted
    have unmarked : ∀ x : Slot, marksSlot k d s.paths[p].timing x = false := fun x => by
      refine Bool.eq_false_iff.mpr fun marks => noted ?_
      obtain ⟨front, -⟩ := Bool.and_eq_true_iff.mp marks
      obtain ⟨passed, follow⟩ := Bool.and_eq_true_iff.mp front
      exact ⟨passed, beq_iff_eq.mp follow⟩
    rw [stands]
    exact ⟨rfl, fun x => by rw [unmarked, Bool.or_false]⟩

/-! ### A packet decided, field by field -/

theorem State.packetNoted_frame (p : Feed) (k : Packet) (s : State) :
    s.packetNoted p k = { s with
      ports := s.ports.set p { s.ports[p] with reader := [] }
      outputs := s.outputs.set p (s.outputs[p].carrying fun l => { l with
        blanking := l.blanking + k.payload.length + 3
        packets := l.packets ++ [{ packet := k, origin := .decided (decide? s.rules[p] k).strip k.good }] })
      rules := (s.packetNoted p k).rules, routes := (s.packetNoted p k).routes
      notices := (s.packetNoted p k).notices } := by
  unfold State.packetNoted
  generalize decide? s.rules[p] k = d
  have outputs : ∀ o : Output,
      (o.carrying fun l => { l with blanking := l.blanking + (k.payload.length + 3) }).carrying
        (fun l => { l with packets := l.packets ++ [{ packet := k, origin := .decided d.strip k.good }] }) =
      o.carrying fun l => { l with
        blanking := l.blanking + k.payload.length + 3
        packets := l.packets ++ [{ packet := k, origin := .decided d.strip k.good }] } := fun o => by
    rw [Output.carrying_carrying]
    · rfl
    · exact fun _ => rfl
  have watched := (s.blankingRead p (k.payload.length + 3) []).watchReached_frame p d.action
  unfold State.decisionNoted State.handToLine
  rw [State.updateCarried_eq]
  generalize (s.blankingRead p (k.payload.length + 3) []).watchReached p d.action = w at watched
  have seen := w.noteSeen_frame p k d
  generalize w.noteSeen p k d = n at seen
  rw [seen, watched]
  simp only [State.blankingRead, vector_set_same, Vector.set_set, outputs]

theorem State.packetNoted_rules (p : Feed) (k : Packet) (s : State) :
    (s.packetNoted p k).rules =
        ((s.blankingRead p (k.payload.length + 3) []).watchReached p (decide? s.rules[p] k).action).rules ∧
      (s.packetNoted p k).notices =
        ((s.blankingRead p (k.payload.length + 3) []).watchReached p (decide? s.rules[p] k).action).notices := by
  unfold State.packetNoted State.decisionNoted State.handToLine
  rw [State.updateCarried_eq, State.noteSeen_frame]
  exact ⟨rfl, rfl⟩

theorem State.packetNoted_notice (p : Feed) (k : Packet) (n : Notice) (s : State) :
    (s.packetNoted p k).notice n =
      ((s.blankingRead p (k.payload.length + 3) []).watchReached p (decide? s.rules[p] k).action).notice n :=
  State.notice_congr (s.packetNoted_rules p k).2 n

theorem State.packetNoted_notice_other (p : Feed) (k : Packet) {n : Notice}
    (h : ∀ (q : Feed) (d : RuleIndex), n ≠ .tallyReached q d) (s : State) :
    (s.packetNoted p k).notice n = s.notice n :=
  (s.packetNoted_notice p k n).trans (State.watchReached_notice_other p _ h _)

theorem State.packetNoted_route (p : Feed) (k : Packet) (s : State) (q : Feed) :
    (s.packetNoted p k).routes[q] = { s.routes[q] with seenThis := (s.packetNoted p k).routes[q].seenThis } ∧
      ∀ x : Slot, (s.packetNoted p k).routes[q].seenThis[x] =
        (s.routes[q].seenThis[x] || (q == p && marksSlot k (decide? s.rules[p] k) s.paths[p].timing x)) := by
  unfold State.packetNoted State.decisionNoted State.handToLine
  generalize decide? s.rules[p] k = d
  have watched := (s.blankingRead p (k.payload.length + 3) []).watchReached_frame p d.action
  rw [State.updateCarried_eq]
  generalize (s.blankingRead p (k.payload.length + 3) []).watchReached p d.action = w at watched
  have routes : w.routes = s.routes := (congrArg State.routes watched :)
  have paths : w.paths = s.paths := (congrArg State.paths watched :)
  by_cases own : q = p
  · subst own
    obtain ⟨route, flags⟩ := w.noteSeen_route_same (p := q) k d
    rw [routes] at route
    refine ⟨route, fun x => ?_⟩
    rw [beq_self_eq_true, Bool.true_and, ← paths, ← routes]
    exact flags x
  · have other := State.noteSeen_route_other (p := p) k d own w
    rw [routes] at other
    refine ⟨?_, fun x => ?_⟩
    · show (w.noteSeen p k d).routes[q] = { s.routes[q] with seenThis := (w.noteSeen p k d).routes[q].seenThis }
      rw [other]
    · show (w.noteSeen p k d).routes[q].seenThis[x] = _
      rw [other, beq_eq_false_iff_ne.mpr own, Bool.false_and, Bool.or_false]

end

/-! ### A taken packet at the table and the lanes (R47, R83) -/

section
variable {s t : State} {F R : LaneId → Prop}

/-- The return check of the lanes of a list whose primary is `x`. -/
theorem LanesTurn.returnChecks (x : Source) (ls : List LaneId) (h : LanesTurn s F R t) :
    LanesTurn s F (fun n => R n ∨ (n ∈ ls ∧ s.lanes[n].primary = some x ∧ s.returns n = true))
      (forList (fun l t => if t.lanes[l].primary = some x then t.returnCheck l else t) ls t) := by
  induction ls generalizing t R with
  | nil => exact h.of_iff (fun _ => Iff.rfl) fun n => by simp
  | cons l ls ih =>
    by_cases hx : s.lanes[l].primary = some x
    · have first : LanesTurn s F (fun n => R n ∨ (n = l ∧ s.returns n = true))
          (if t.lanes[l].primary = some x then t.returnCheck l else t) := by
        rw [if_pos ((h.primary l).trans hx)]
        exact h.returnCheck l
      refine (ih first).of_iff (fun _ => Iff.rfl) fun n => ?_
      rw [or_assoc, List.mem_cons, or_and_right]
      refine or_congr_right (or_congr_left ⟨fun ⟨same, back⟩ => ⟨same, same ▸ hx, back⟩, fun ⟨same, _, back⟩ =>
        ⟨same, back⟩⟩)
    · have first : LanesTurn s F R (if t.lanes[l].primary = some x then t.returnCheck l else t) := by
        rwa [if_neg fun e => hx ((h.primary l).symm.trans e)]
      refine (ih first).of_iff (fun _ => Iff.rfl) fun n => ?_
      rw [List.mem_cons, or_and_right]
      refine or_congr_right ⟨.inr, fun either => either.resolve_left fun ⟨same, e, _⟩ => hx (same ▸ e)⟩

theorem LanesTurn.onAddition (h : LanesTurn s F R t) (x : Source) :
    LanesTurn s F (fun n => R n ∨ (s.lanes[n].primary = some x ∧ s.returns n = true)) (t.onAddition x) :=
  (h.returnChecks x (List.finRange 32)).of_iff (fun _ => Iff.rfl)
    fun n => or_congr_right (and_iff_right (List.mem_finRange n))

/-- The removal of a stream by itself: the lanes that fail over at it. -/
theorem State.onRemoval_turn (x : Source) (s : State) :
    LanesTurn s (fun n => s.lanes[n].primary = some x ∧ s.failsOver n = true) (fun _ => False) (s.onRemoval x) :=
  ((LanesTurn.refl s).onRemoval x).of_iff (fun _ => false_or _ ▸ Iff.rfl) fun _ => Iff.rfl

/-- The addition of a stream by itself: the lanes that return at it. -/
theorem State.onAddition_turn (x : Source) (s : State) :
    LanesTurn s (fun _ => False) (fun n => s.lanes[n].primary = some x ∧ s.returns n = true) (s.onAddition x) :=
  ((LanesTurn.refl s).onAddition x).of_iff (fun _ => Iff.rfl) fun _ => false_or _ ▸ Iff.rfl

end

section
variable (s : State)

theorem State.takeStream_frame (x : Source) (phase mends : Nat) :
    s.takeStream x phase mends = { s with
      streams := (s.takeStream x phase mends).streams, tableCount := (s.takeStream x phase mends).tableCount
      notices := (s.takeStream x phase mends).notices } := by
  unfold State.takeStream
  split
  · rfl
  · split
    · rfl
    · split <;> rfl

theorem State.takeStream_notice_other (x : Source) (phase mends : Nat) {n : Notice} (h : n ≠ .streamTableFull) :
    (s.takeStream x phase mends).notice n = s.notice n := by
  unfold State.takeStream
  split
  · rfl
  · split
    · rfl
    · split
      · rfl
      · exact State.notice_raise_other _ h

/-- The removal that a learned packet causes, where it causes one (R63). -/
def State.streamGone (gone : Option Source) (s : State) : State := gone.elim s fun y => s.onRemoval y

theorem State.streamGone_turn (gone : Option Source) :
    LanesTurn s (fun n => ∃ y, gone = some y ∧ s.lanes[n].primary = some y ∧ s.failsOver n = true) (fun _ => False)
      (s.streamGone gone) := by
  cases gone with
  | none => exact (LanesTurn.refl s).of_iff (fun n => by simp) fun _ => Iff.rfl
  | some y =>
    simp only [State.streamGone, Option.elim]
    exact (s.onRemoval_turn y).of_iff (fun n => by simp) fun _ => Iff.rfl

/-- The sets and the events of a learned packet, in their order (R83). -/
theorem State.storeLearned_eq (x : Source) (gone : Option Source) (sets : List CheckedSet) :
    s.storeLearned x gone sets =
      (((({ s with freeCount := s.freeCount + 1 }.storeAll x (sets.take (s.setsBefore sets.length).1)).streamGone gone).storeAll x
        ((sets.take (s.setsBefore sets.length).2).drop (s.setsBefore sets.length).1)).onAddition x).storeAll x
          (sets.drop (s.setsBefore sets.length).2) := by
  cases gone with
  | none => simp only [State.storeLearned, State.streamGone, Option.elim]
  | some y => simp only [State.storeLearned, State.streamGone, Option.elim]

theorem State.storeLearned_frame (x : Source) (gone : Option Source) (sets : List CheckedSet) :
    s.storeLearned x gone sets = { s with
      freeCount := s.freeCount + 1, lanes := (s.storeLearned x gone sets).lanes
      probe := (s.storeLearned x gone sets).probe, notices := (s.storeLearned x gone sets).notices } := by
  rw [State.storeLearned_eq]
  generalize (s.setsBefore sets.length) = n
  have taken := State.storeAll_frame x (sets.take n.1) { s with freeCount := s.freeCount + 1 }
  generalize State.storeAll x (sets.take n.1) { s with freeCount := s.freeCount + 1 } = a at taken
  have gone' := (a.streamGone_turn gone).eq
  generalize a.streamGone gone = b at gone'
  have stored := b.storeAll_frame x ((sets.take n.2).drop n.1)
  generalize b.storeAll x ((sets.take n.2).drop n.1) = c at stored
  have added := (c.onAddition_turn x).eq
  generalize c.onAddition x = e at added
  have rest := e.storeAll_frame x (sets.drop n.2)
  generalize e.storeAll x (sets.drop n.2) = f at rest
  rw [rest, added, stored, gone', taken]

theorem State.storeLearned_notice_other (x : Source) (gone : Option Source) (sets : List CheckedSet) {n : Notice}
    (overrun : ∀ l, n ≠ .laneOverrun l) (failover : ∀ l, n ≠ .laneFailover l) :
    (s.storeLearned x gone sets).notice n = s.notice n := by
  rw [State.storeLearned_eq, State.storeAll_notice_other overrun, (State.onAddition_turn x _).quiet n fun l _ => failover l,
    State.storeAll_notice_other overrun, (State.streamGone_turn _ gone).quiet n fun l _ => failover l,
    State.storeAll_notice_other overrun]
  rfl

theorem State.takePacket_frame (x : Source) (c : CarriagePayload) :
    s.takePacket x c = { s with
      freeCount := (s.takePacket x c).freeCount, streams := (s.takePacket x c).streams
      tableCount := (s.takePacket x c).tableCount, lanes := (s.takePacket x c).lanes
      probe := (s.takePacket x c).probe, notices := (s.takePacket x c).notices } := by
  have stream := s.takeStream_frame x c.phase (failingSamples c.sets)
  unfold State.takePacket
  dsimp only
  generalize s.takeStream x c.phase (failingSamples c.sets) = a at stream
  split
  · rw [State.storeLearned_frame, stream]
  · rw [State.storeAll_frame, stream]

theorem State.takePacket_notice_other (x : Source) (c : CarriagePayload) {n : Notice} (full : n ≠ .streamTableFull)
    (overrun : ∀ l, n ≠ .laneOverrun l) (failover : ∀ l, n ≠ .laneFailover l) :
    (s.takePacket x c).notice n = s.notice n := by
  have stream := s.takeStream_notice_other x c.phase (failingSamples c.sets) full
  unfold State.takePacket
  dsimp only
  split
  · rw [State.storeLearned_notice_other _ x _ c.sets overrun failover, stream]
  · rw [State.storeAll_notice_other overrun, stream]

end

end Sys2Proof.Machine
end

section
/-! SUPPORT. The packets that are decided: every one (O13), and those taken of a stream that the table knows (O14). -/

namespace Sys2Proof.Machine

/-- A decided packet leaves the part noted, and handed on to the table and the lanes when it is taken (R46, R47). -/
theorem exec_packetComplete_noted {s : State} {p : Feed} {k : Packet} (h : s.Reading p k) (decided : s.addressed p k = false) :
    ∃ t, exec (.packetComplete (.bare p) k.kind k.payload k.sum) s = .next t ∧
      (t = s.packetNoted p k ∨ ∃ x c, t = (s.packetNoted p k).takePacket x c) ∧
      (k.kind ≠ kindCarriage ∨ k.good = false ∨ (decide? s.rules[p] k).take = false → t = s.packetNoted p k) := by
  refine ⟨_, exec_packetComplete_of_decided h decided, ?_, fun notTaken => if_neg ?_⟩
  · split
    · cases readCarriage k.payload with
      | none => exact .inl rfl
      | some c => exact .inr ⟨_, c, rfl⟩
    · exact .inl rfl
  · rintro ⟨carriage, good, take⟩
    rcases notTaken with other | bad | left
    · exact other carriage
    · exact Bool.noConfusion (good.symm.trans bad)
    · exact Bool.noConfusion (take.symm.trans left)

/-- The watch of the action entry, by its mode (R50, R52, R53). -/
theorem State.reachWatch_entry (s : State) (p : Feed) (e : RuleIndex) :
    (s.rules[p][e].watchMode = .idle →
      (s.reachWatch p e).rules[p][e] = s.rules[p][e] ∧
      (s.reachWatch p e).notice (.tallyReached p e) = s.notice (.tallyReached p e)) ∧
    (s.rules[p][e].watchMode = .absence →
      (s.reachWatch p e).rules[p][e] = { s.rules[p][e] with watchCount := 0, watchState := .armed } ∧
      (s.reachWatch p e).notice (.tallyReached p e) = s.notice (.tallyReached p e)) ∧
    (s.rules[p][e].watchMode = .tally → s.rules[p][e].watchCount + 1 ≠ s.rules[p][e].watchLimit →
      (s.reachWatch p e).rules[p][e] = { s.rules[p][e] with watchCount := s.rules[p][e].watchCount + 1 } ∧
      (s.reachWatch p e).notice (.tallyReached p e) = s.notice (.tallyReached p e)) ∧
    (s.rules[p][e].watchMode = .tally → s.rules[p][e].watchCount + 1 = s.rules[p][e].watchLimit →
      (s.reachWatch p e).rules[p][e] = { s.rules[p][e] with watchCount := 0 } ∧
      (s.reachWatch p e).notice (.tallyReached p e) =
        { raised := true, generation := ((s.notice (.tallyReached p e)).generation + 1) % 256 }) := by
  refine ⟨fun idle => ?_, fun absence => ?_, fun tally below => ?_, State.tallyMet⟩
  · rw [State.reachWatch_of_idle idle]
    exact ⟨rfl, rfl⟩
  · rw [State.reachWatch_of_absence absence]
    exact ⟨State.setRule_same _ _ _ _, rfl⟩
  · rw [State.tallyBelow tally below]
    exact ⟨State.setRule_same _ _ _ _, rfl⟩

/-- Settles O13: what the decision leaves by itself (`State.packetNoted`), which the table and the lanes do not touch. -/
theorem packetCompleteIsDecided : Obligations.PacketCompleteIsDecided := by
  unfold Obligations.PacketCompleteIsDecided
  intro s p k reading decided
  obtain ⟨t, executed, ends, notTaken⟩ := exec_packetComplete_noted reading decided
  have noted := s.packetNoted_frame p k
  obtain ⟨rules, -⟩ := s.packetNoted_rules p k
  have watch : ∃ w, w = (s.blankingRead p (k.payload.length + 3) []).watchReached p (decide? s.rules[p] k).action := ⟨_, rfl⟩
  obtain ⟨w, hw⟩ := watch
  have records : ∀ q d, (s.packetNoted p k).notice (.tallyReached q d) = w.notice (.tallyReached q d) := fun q d => by
    rw [hw]
    exact s.packetNoted_notice p k _
  rw [← hw] at rules
  have routes := s.packetNoted_route p k
  have others : ∀ n, (∀ (q : Feed) (d : RuleIndex), n ≠ .tallyReached q d) → (s.packetNoted p k).notice n = s.notice n :=
    fun n hn => State.packetNoted_notice_other p k hn s
  generalize s.packetNoted p k = u at noted rules records routes ends notTaken others
  have frame : t = { u with
      freeCount := t.freeCount, streams := t.streams, tableCount := t.tableCount, lanes := t.lanes, probe := t.probe
      notices := t.notices } := by
    rcases ends with rfl | ⟨x, c, rfl⟩
    · rfl
    · exact u.takePacket_frame x c
  have tallies : ∀ q d, t.notice (.tallyReached q d) = w.notice (.tallyReached q d) := fun q d => by
    rw [← records]
    rcases ends with rfl | ⟨x, c, rfl⟩
    · rfl
    · exact u.takePacket_notice_other x c (by nofun) (by nofun) (by nofun)
  have sameRules : t.rules = w.rules := (congrArg State.rules frame :).trans rules
  refine ⟨t, executed, ?frame, ?ports, ?outputs, fun q x => ?routes, fun q d other => ?others, fun e action => ?action,
    fun untaken => ?untaken⟩
  case frame =>
    rw [frame, noted]
  case ports => exact (congrArg State.ports frame :).trans (congrArg State.ports noted :)
  case outputs => exact (congrArg State.outputs frame :).trans (congrArg State.outputs noted :)
  case routes =>
    obtain ⟨route, flags⟩ := routes q
    have same : t.routes = u.routes := (congrArg State.routes frame :)
    rw [same]
    refine ⟨route, (flags x).trans ?_⟩
    simp only [marksSlot, Bool.and_assoc]
    rfl
  case others =>
    rw [sameRules, tallies, hw]
    exact State.watchReached_other p other _
  case action =>
    rw [sameRules, tallies, hw, action]
    exact (s.blankingRead p (k.payload.length + 3) []).reachWatch_entry p e
  case untaken =>
    have still := notTaken untaken
    subst still
    exact ⟨by rw [noted], others⟩

/-! ### A stream that the table knows (R61) -/

section
variable {s : State}

/-- With no two entries of one stream, the entry of a stream is the one found (R60). -/
theorem State.findStream_of_entry (law : s.StreamLaw) {i : Fin 48} {e : StreamEntry} (entry : s.streams[i] = some e) :
    s.findStream e.source = some i := by
  obtain ⟨-, distinct⟩ := law
  refine Fin.find?_eq_find?_finRange.symm.trans (Fin.find?_eq_some_iff.mpr ⟨?_, fun j before => ?_⟩)
  · rw [entry]
    exact beq_self_eq_true _
  · refine beq_eq_false_iff_ne.mpr fun same => ?_
    obtain ⟨a, found, source⟩ := Option.map_eq_some_iff.mp same
    exact distinct j i (Fin.ne_of_lt before) a e found entry source

theorem State.findStream_congr {t : State} (h : t.streams = s.streams) (x : Source) : t.findStream x = s.findStream x := by
  simp only [State.findStream, h]

theorem State.takePacket_of_known {x : Source} {i : Fin 48} (known : s.findStream x = some i) (c : CarriagePayload) :
    s.takePacket x c =
      (s.setStream i (s.streams[i].map fun e => e.refreshed c.phase (failingSamples c.sets))).storeAll x c.sets := by
  have old : s.learns x = false := by rw [State.learns, known]; rfl
  simp only [State.takePacket, State.takeStream, known, old, Bool.false_eq_true, if_false]

end

theorem exec_packetComplete_taken {s : State} {p : Feed} {k : Packet} {c : CarriagePayload} (h : s.Reading p k)
    (kind : k.kind = kindCarriage) (good : k.good = true) (take : (decide? s.rules[p] k).take = true)
    (payload : readCarriage k.payload = some c) :
    exec (.packetComplete (.bare p) k.kind k.payload k.sum) s =
      .next ((s.packetNoted p k).takePacket { feed := p, slot := c.slot } c) := by
  have decided : s.addressed p k = false := by
    rw [State.addressed, kind]
    rfl
  rw [exec_packetComplete_of_decided h decided, if_pos ⟨kind, good, take⟩, payload]
  rfl

theorem State.packetNoted_laneView (p : Feed) (k : Packet) (s : State) (l : LaneId) :
    (s.packetNoted p k).laneView l = s.laneView l :=
  State.laneView_of_same (by rw [State.packetNoted_frame])
    (State.packetNoted_notice_other p k (by nofun) s) (State.packetNoted_notice_other p k (by nofun) s)

/-- Settles O14: the entry found is the one refreshed, and each lane stores by itself (`State.storeAll_laneView`). -/
theorem takenPacketRefreshesAndFeedsLanes : Obligations.TakenPacketRefreshesAndFeedsLanes := by
  unfold Obligations.TakenPacketRefreshesAndFeedsLanes
  intro s p k c i e reading kind good take payload law entry source
  have executed := exec_packetComplete_taken reading kind good take payload
  have noted := s.packetNoted_frame p k
  have views := s.packetNoted_laneView p k
  have others : ∀ n, (∀ (q : Feed) (d : RuleIndex), n ≠ .tallyReached q d) → (s.packetNoted p k).notice n = s.notice n :=
    fun n hn => State.packetNoted_notice_other p k hn s
  rw [← source] at executed
  generalize s.packetNoted p k = u at noted views others executed
  have streams : u.streams = s.streams := (congrArg State.streams noted :)
  have known : u.findStream e.source = some i :=
    (State.findStream_congr streams _).trans (State.findStream_of_entry law entry)
  have refreshed : (u.streams[i].map fun e => e.refreshed c.phase (failingSamples c.sets)) =
      some (e.refreshed c.phase (failingSamples c.sets)) := by
    rw [streams, entry]
    rfl
  rw [State.takePacket_of_known known, refreshed] at executed
  have frame := (u.setStream i (some (e.refreshed c.phase (failingSamples c.sets)))).storeAll_frame e.source c.sets
  have quiet := fun (n : Notice) (hn : ∀ l, n ≠ .laneOverrun l) =>
    State.storeAll_notice_other hn e.source c.sets (u.setStream i (some (e.refreshed c.phase (failingSamples c.sets))))
  have stored := fun l =>
    (u.setStream i (some (e.refreshed c.phase (failingSamples c.sets)))).storeAll_laneView e.source c.sets l
  generalize (u.setStream i (some (e.refreshed c.phase (failingSamples c.sets)))).storeAll e.source c.sets = t
    at executed frame quiet stored
  have view : ∀ l, t.laneView l = (s.laneView l).store e.source c.sets := fun l => by
    rw [stored l, ← views l]
    rfl
  refine ⟨t, executed, ?frame, ?streams, fun l other => ?stands, fun l on => ?stores, fun l on room => ?fits,
    fun n tally overrun => ?others⟩
  case frame =>
    rw [frame, noted]
    rfl
  case streams =>
    rw [(congrArg State.streams frame :), State.setStream_streams, streams]
    rfl
  case stands =>
    have same := (view l).trans (LaneView.store_of_otherStream other c.sets)
    exact ⟨congrArg LaneView.lane same, congrArg LaneView.overrun same⟩
  case stores =>
    have same := (view l).trans (s.storeSets_laneView e.source l c.sets).symm
    exact ⟨congrArg LaneView.lane same, congrArg LaneView.overrun same⟩
  case fits =>
    have same := (view l).trans (LaneView.store_of_room (v := s.laneView l) on c.sets room)
    exact ⟨congrArg LaneView.lane same, congrArg LaneView.overrun same⟩
  case others =>
    rw [quiet n overrun]
    exact others n tally

end Sys2Proof.Machine
end

section
/-! SUPPORT. A taken packet of a stream that the table does not know: how its sets, the removal and the addition reach a
lane, and what the table makes of the stream (R62 to R64, R83, R88 to R91). -/

namespace Sys2Proof.Machine

/-! ### The split of the sets (R83) -/

section
variable {α : Type}

theorem List.take_append_middle {n m : Nat} (h : n ≤ m) (l : List α) : l.take n ++ (l.take m).drop n = l.take m := by
  have front : l.take n = (l.take m).take n := by rw [List.take_take, Nat.min_eq_left h]
  rw [front, List.take_append_drop]

theorem List.middle_append_drop {n m : Nat} (h : n ≤ m) (l : List α) : (l.take m).drop n ++ l.drop m = l.drop n := by
  have back : l.drop m = (l.drop n).drop (m - n) := by rw [List.drop_drop, Nat.add_sub_cancel' h]
  rw [List.drop_take, back, List.take_append_drop]

end

theorem State.setsBefore_ordered (s : State) (count : Nat) :
    (s.setsBefore count).1 ≤ (s.setsBefore count).2 ∧ (s.setsBefore count).2 ≤ count := by
  have first := Nat.mod_lt (Config.setsBeforeEvents s.freeCount 0) (Nat.succ_pos count)
  have second := Nat.mod_lt (Config.setsBeforeEvents s.freeCount 1)
    (Nat.succ_pos (count - Config.setsBeforeEvents s.freeCount 0 % (count + 1)))
  simp only [State.setsBefore]
  rw [Nat.succ_eq_add_one] at first second
  omega

/-! ### The events of a learned packet at one lane -/

/-- What becomes of every lane of `a`, and of an open window, when the sets of a packet of stream `x` reach the lanes, `n` of
them before the removal of `gone` and `m` before the addition of `x`, and leave `t`. -/
structure LearnedSets (a t : State) (x : Source) (gone : Option Source) (sets : List CheckedSet) (n m : Nat) : Prop where
  fails : ∀ l, LaneFailsOver a t gone l → t.laneView l = (a.laneView l).failedOver.store x (sets.drop n)
  returns : ∀ l, LaneReturns a t x l →
    t.laneView l = ((a.laneView l).store x (sets.take m)).backHome.store x (sets.drop m)
  stays : ∀ l, ¬LaneFailsOver a t gone l → ¬LaneReturns a t x l → t.laneView l = (a.laneView l).store x sets
  window : WindowFollows a t fun l => LaneFailsOver a t gone l ∨ LaneReturns a t x l

section
variable {s t : State} {F R : LaneId → Prop}

/-- A turn that only fails lanes over, at one view. -/
theorem LanesTurn.laneView_of_failed (h : LanesTurn s F (fun _ => False) t) {l : LaneId} (hl : F l) :
    t.laneView l = (s.laneView l).failedOver := by
  obtain ⟨lane, failover⟩ := h.failed l hl
  rw [State.laneView, lane, failover, h.quiet _ fun _ _ => by nofun]
  rfl

theorem LanesTurn.laneView_of_returned (h : LanesTurn s (fun _ => False) R t) {l : LaneId} (hl : R l) :
    t.laneView l = (s.laneView l).backHome := by
  rw [State.laneView, h.returned l hl, h.quiet _ fun _ none => none.elim, h.quiet _ fun _ none => none.elim]
  rfl

theorem LanesTurn.laneView_of_stood (h : LanesTurn s F R t) {l : LaneId} (hf : ¬F l) (hr : ¬R l) :
    t.laneView l = s.laneView l :=
  State.laneView_of_same (h.stood l hf hr) (h.quiet _ fun _ _ => by nofun)
    (h.quiet _ fun m hm e => hf (by rw [Notice.laneFailover.inj e]; exact hm))

end

theorem LaneFailsOver.not_returns {s t : State} {x : Source} {gone : Option Source} {l : LaneId}
    (h : LaneFailsOver s t gone l) : ¬LaneReturns s t x l := fun ⟨backup, _⟩ => by
  obtain ⟨primary, -⟩ := h
  exact Active.noConfusion (primary.symm.trans backup)

/-- A lane that fails over was on the stream removed. -/
theorem LaneFailsOver.activeStream {s t : State} {gone : Option Source} {l : LaneId} (h : LaneFailsOver s t gone l) :
    s.lanes[l].activeStream = gone := by
  obtain ⟨active, -, primary, -⟩ := h
  rw [Lane.activeStream, active]
  exact primary

theorem State.storeLearned_sets {a : State} {x : Source} {gone : Option Source} (new : gone ≠ some x)
    (known : a.hasStream x = true) (sets : List CheckedSet) :
    LearnedSets a (a.storeLearned x gone sets) x gone sets (a.setsBefore sets.length).1 (a.setsBefore sets.length).2 := by
  obtain ⟨ordered, -⟩ := a.setsBefore_ordered sets.length
  have streams : (a.storeLearned x gone sets).streams = a.streams := (congrArg State.streams (a.storeLearned_frame x gone sets) :)
  have whole := a.storeLearned_eq x gone sets
  generalize a.storeLearned x gone sets = t at streams whole
  generalize (a.setsBefore sets.length).1 = n at whole ordered
  generalize (a.setsBefore sets.length).2 = m at whole ordered
  -- The five stages: sets, the removal, sets, the addition, sets.
  have firstView := fun l => State.storeAll_laneView x (sets.take n) l { a with freeCount := a.freeCount + 1 }
  have firstFrame := State.storeAll_frame x (sets.take n) { a with freeCount := a.freeCount + 1 }
  generalize State.storeAll x (sets.take n) { a with freeCount := a.freeCount + 1 } = b at whole firstView firstFrame
  have removal := b.streamGone_turn gone
  generalize b.streamGone gone = d at whole removal
  have middleView := fun l => d.storeAll_laneView x ((sets.take m).drop n) l
  have middleFrame := d.storeAll_frame x ((sets.take m).drop n)
  generalize d.storeAll x ((sets.take m).drop n) = e at whole middleView middleFrame
  have addition := e.onAddition_turn x
  generalize e.onAddition x = f at whole addition
  have lastView := fun l => f.storeAll_laneView x (sets.drop m) l
  have lastFrame := f.storeAll_frame x (sets.drop m)
  rw [← whole] at lastView lastFrame
  have baseView : ∀ l, State.laneView { a with freeCount := a.freeCount + 1 } l = a.laneView l := fun _ => rfl
  have table_b : b.streams = t.streams := (congrArg State.streams firstFrame :).trans streams.symm
  have table_e : e.streams = t.streams :=
    ((congrArg State.streams middleFrame :).trans removal.streams).trans table_b
  have valid : t.hasSource (some x) = true := (State.hasSource_congr streams (some x)).trans known
  have kept_b : ∀ l, (a.laneView l).Keeps (b.laneView l) := fun l => by
    rw [firstView l, baseView]
    exact LaneView.store_keeps x _ _
  have kept_e : ∀ l, (d.laneView l).Keeps (e.laneView l) := fun l => by
    rw [middleView l]
    exact LaneView.store_keeps x _ _
  have failsIff : ∀ l, (∃ y, gone = some y ∧ b.lanes[l].primary = some y ∧ b.failsOver l = true) ↔ LaneFailsOver a t gone l := by
    intro l
    have primary : b.lanes[l].primary = a.lanes[l].primary := (kept_b l).primary
    have backup : b.lanes[l].backup = a.lanes[l].backup := (kept_b l).backup
    have active : b.lanes[l].active = a.lanes[l].active := (kept_b l).active
    rw [State.failsOver_iff, primary, backup, active, State.hasSource_congr table_b, State.hasSource_congr table_b]
    constructor
    · rintro ⟨y, hy, on, act, -, gone', ready⟩
      exact ⟨act, by rw [hy]; rfl, by rw [hy]; exact on, gone', ready⟩
    · rintro ⟨act, some_gone, on, gone', ready⟩
      obtain ⟨y, hy⟩ := Option.isSome_iff_exists.mp some_gone
      rw [hy] at on
      exact ⟨y, hy, on, act, by rw [on]; rfl, gone', ready⟩
  have turned := removal.of_iff failsIff fun _ => Iff.rfl
  have returnsIff : ∀ l, (e.lanes[l].primary = some x ∧ e.returns l = true) ↔ LaneReturns a t x l := by
    intro l
    have primary : e.lanes[l].primary = d.lanes[l].primary := (kept_e l).primary
    have backup : e.lanes[l].backup = d.lanes[l].backup := (kept_e l).backup
    have active : e.lanes[l].active = d.lanes[l].active := (kept_e l).active
    have auto : e.lanes[l].autoReturn = d.lanes[l].autoReturn := (kept_e l).autoReturn
    rw [State.returns_iff, primary, backup, active, auto, State.hasSource_congr table_e, State.hasSource_congr table_e]
    by_cases fails : LaneFailsOver a t gone l
    · obtain ⟨act, -, on, -⟩ := id fails
      refine iff_of_false (fun ⟨own, _⟩ => new ?_) fails.not_returns
      rw [(turned.failed l fails).1] at own
      have own' : a.lanes[l].primary = some x := (kept_b l).primary.symm.trans own
      exact on.symm.trans own'
    · rw [turned.stood l fails id]
      have primary' : b.lanes[l].primary = a.lanes[l].primary := (kept_b l).primary
      have backup' : b.lanes[l].backup = a.lanes[l].backup := (kept_b l).backup
      have active' : b.lanes[l].active = a.lanes[l].active := (kept_b l).active
      have auto' : b.lanes[l].autoReturn = a.lanes[l].autoReturn := (kept_b l).autoReturn
      rw [primary', backup', active', auto']
      exact ⟨fun ⟨on, act, _, free⟩ => ⟨act, on, free⟩, fun ⟨act, on, free⟩ => ⟨on, act, by rw [on]; exact valid, free⟩⟩
  have returned := addition.of_iff (fun _ => Iff.rfl) returnsIff
  refine ⟨fun l fails => ?_, fun l back => ?_, fun l noFail noReturn => ?_, ?_⟩
  · have off : (a.laneView l).lane.activeStream ≠ some x := fun on => new (fails.activeStream.symm.trans on)
    rw [lastView, returned.laneView_of_stood id fails.not_returns, middleView, turned.laneView_of_failed fails, firstView,
      baseView, LaneView.store_of_otherStream off, ← LaneView.store_append, List.middle_append_drop ordered]
  · rw [lastView, returned.laneView_of_returned back, middleView, turned.laneView_of_stood (fun fails => fails.not_returns back) id,
      firstView, baseView, ← LaneView.store_append, List.take_append_middle ordered]
  · rw [lastView, returned.laneView_of_stood id noReturn, middleView, turned.laneView_of_stood noFail id, firstView, baseView,
      ← LaneView.store_append, ← LaneView.store_append, List.middle_append_drop ordered, List.take_append_drop]
  · have first : b.probe = a.probe := (congrArg State.probe firstFrame :)
    have middle : e.probe = d.probe := (congrArg State.probe middleFrame :)
    have last : t.probe = f.probe := (congrArg State.probe lastFrame :)
    refine ((turned.window.of_probe first.symm rfl).trans (returned.window.of_probe middle.symm last)).of_iff fun l => ?_
    rw [or_false, false_or]

/-! ### What the packet teaches a lane -/

/-- A payload of at most 255 words carries fewer sets than a lane holds (R12, R78). -/
theorem readSets_length (ws : List FeedWord) : (readSets ws).length ≤ ws.length := by
  induction ws using readSets.induct with
  | case1 a b c d e f rest ih =>
    simp only [readSets, List.length_cons]
    omega
  | case2 ws h =>
    unfold readSets
    split
    · next a b c d e f rest => exact absurd rfl (h a b c d e f rest)
    · exact Nat.zero_le _

theorem readCarriage_sets_length {payload : List FeedWord} {c : CarriagePayload} (h : readCarriage payload = some c) :
    c.sets.length ≤ payload.length := by
  cases payload with
  | nil => exact absurd h nofun
  | cons head rest =>
    obtain rfl := Option.some.inj h
    exact (readSets_length rest).trans (Nat.le_succ _)

section
variable {s a t : State} {x : Source} {gone : Option Source} {sets : List CheckedSet} {n m : Nat}

theorem laneFailsOver_congr (lanes : a.lanes = s.lanes) (l : LaneId) :
    LaneFailsOver a t gone l ↔ LaneFailsOver s t gone l := by
  simp only [LaneFailsOver, lanes]

theorem laneReturns_congr (lanes : a.lanes = s.lanes) (l : LaneId) : LaneReturns a t x l ↔ LaneReturns s t x l := by
  simp only [LaneReturns, lanes]

theorem not_laneFailsOver_none (l : LaneId) : ¬LaneFailsOver s t none l := fun ⟨_, h, _⟩ => by simp at h

/-- The sets at an emptied lane: all are appended, or none. -/
theorem LaneView.store_emptied {v : LaneView} {source : Option Source} (empty : v.lane.fifo = [])
    (on : v.lane.activeStream = source) (few : sets.length ≤ 2048) :
    v.store x sets = { v with lane := (if source = some x then sets else []).foldl Lane.append v.lane } := by
  by_cases own : source = some x
  · rw [if_pos own]
    exact LaneView.store_of_room (on.trans own) sets (by rw [empty, List.length_nil]; omega)
  · rw [if_neg own]
    exact LaneView.store_of_otherStream (fun e => own (on.symm.trans e)) sets

theorem LearnedSets.taught (h : LearnedSets a t x gone sets n m) (new : gone ≠ some x) (few : sets.length ≤ 2048)
    (lanes : a.lanes = s.lanes) (views : ∀ l, a.laneView l = s.laneView l) (l : LaneId) :
    LaneTaught s t x gone True sets n m l := by
  have drops : ∀ j, (sets.drop j).length ≤ 2048 := fun j => by
    rw [List.length_drop]
    omega
  have stores := s.storeSets_laneView x l sets
  refine ⟨fun fails => ?_, fun _ back other => ?_, fun noReturn on => ?_, fun off noFail noReturn => ?_⟩
  · have view := h.fails l ((laneFailsOver_congr lanes l).mpr fails)
    rw [views, LaneView.store_emptied (v := (s.laneView l).failedOver) rfl rfl (drops n)] at view
    exact ⟨congrArg LaneView.lane view, congrArg LaneView.failover view, congrArg LaneView.overrun view⟩
  · have view := h.returns l ((laneReturns_congr lanes l).mpr back)
    obtain ⟨active, primary, -⟩ := back
    have off : (s.laneView l).lane.activeStream ≠ some x := fun e => other (by
      rw [Lane.activeStream, State.laneView_lane, active] at e
      exact e)
    rw [views, LaneView.store_of_otherStream off, LaneView.store_emptied (v := (s.laneView l).backHome) rfl rfl (drops m)] at view
    have own : ((s.laneView l).backHome).lane.activeStream = some x := primary
    rw [if_pos own] at view
    exact ⟨congrArg LaneView.lane view, congrArg LaneView.failover view, congrArg LaneView.overrun view⟩
  · have noFail : ¬LaneFailsOver a t gone l := fun fails =>
      new (((laneFailsOver_congr lanes l).mp fails).activeStream.symm.trans on)
    have noBack : ¬LaneReturns a t x l := fun back => by
      obtain ⟨active, primary, -⟩ := (laneReturns_congr lanes l).mp back
      exact noReturn.elim (fun h => Active.noConfusion (active.symm.trans h)) fun h => h primary
    have view := h.stays l noFail noBack
    have same := view.trans ((congrArg (LaneView.store x sets) (views l)).trans stores.symm)
    have kept : (t.laneView l).failover = (s.laneView l).failover := by
      rw [view, views]
      exact (LaneView.store_keeps x sets _).failover
    exact ⟨congrArg LaneView.lane same, kept, congrArg LaneView.overrun same⟩
  · have view := h.stays l (fun fails => noFail ((laneFailsOver_congr lanes l).mp fails))
      fun back => noReturn ⟨trivial, (laneReturns_congr lanes l).mp back⟩
    rw [views, LaneView.store_of_otherStream off] at view
    exact ⟨congrArg LaneView.lane view, congrArg LaneView.failover view, congrArg LaneView.overrun view⟩

/-- Sets that teach the table nothing reach each lane on their stream, and no other (R64). -/
theorem State.storeAll_taught (views : ∀ l, a.laneView l = s.laneView l) (l : LaneId) :
    LaneTaught s (a.storeAll x sets) x none False sets n m l := by
  have view := a.storeAll_laneView x sets l
  rw [views] at view
  have kept : ((a.storeAll x sets).laneView l).failover = (s.laneView l).failover := by
    rw [view]
    exact (LaneView.store_keeps x sets _).failover
  refine ⟨fun fails => absurd fails (not_laneFailsOver_none l), fun no => no.elim, fun _ _ => ?_, fun off _ _ => ?_⟩
  · have same := view.trans (s.storeSets_laneView x l sets).symm
    exact ⟨congrArg LaneView.lane same, kept, congrArg LaneView.overrun same⟩
  · rw [LaneView.store_of_otherStream off] at view
    exact ⟨congrArg LaneView.lane view, kept, congrArg LaneView.overrun view⟩

end

/-! ### What the table makes of a stream that it does not know (R62 to R64) -/

section
variable {s : State} {x : Source}

theorem State.lowestFree_of_first {i : Fin 48} (free : s.streams[i] = none) (first : ∀ j : Fin 48, j < i → s.streams[j] ≠ none) :
    s.lowestFree = some i :=
  Fin.find?_eq_find?_finRange.symm.trans (Fin.find?_eq_some_iff.mpr
    ⟨Option.isNone_iff_eq_none.mpr free, fun j before => Bool.eq_false_iff.mpr fun h =>
      first j before (Option.isNone_iff_eq_none.mp h)⟩)

theorem State.lowestFree_of_full (full : ∀ j : Fin 48, s.streams[j] ≠ none) : s.lowestFree = none :=
  Fin.find?_eq_find?_finRange.symm.trans (Fin.find?_eq_none_iff.mpr fun j => Bool.eq_false_iff.mpr fun h =>
    full j (Option.isNone_iff_eq_none.mp h))

theorem State.lowestReplaceable_of_first {i : Fin 48} {old : StreamEntry} (entry : s.streams[i] = some old) (age : old.age = 3)
    (first : ∀ (j : Fin 48) (e : StreamEntry), j < i → s.streams[j] = some e → e.age ≠ 3) : s.lowestReplaceable = some i := by
  refine Fin.find?_eq_find?_finRange.symm.trans (Fin.find?_eq_some_iff.mpr ⟨?_, fun j before => ?_⟩)
  · rw [entry]
    exact beq_iff_eq.mpr (congrArg some age)
  · refine beq_eq_false_iff_ne.mpr fun aged => ?_
    obtain ⟨e, found, age⟩ := Option.map_eq_some_iff.mp aged
    exact first j e before found age

theorem State.lowestReplaceable_of_young (young : ∀ j : Fin 48, ∃ e, s.streams[j] = some e ∧ e.age ≠ 3) :
    s.lowestReplaceable = none := by
  refine Fin.find?_eq_find?_finRange.symm.trans (Fin.find?_eq_none_iff.mpr fun j => beq_eq_false_iff_ne.mpr fun aged => ?_)
  obtain ⟨e, found, age⟩ := young j
  obtain ⟨e', found', age'⟩ := Option.map_eq_some_iff.mp aged
  obtain rfl := Option.some.inj (found.symm.trans found')
  exact age age'

/-- A stream learned into the lowest free entry (R62). -/
theorem State.takePacket_of_free {i : Fin 48} (unknown : s.findStream x = none) (free : s.lowestFree = some i)
    (c : CarriagePayload) :
    s.takePacket x c =
      { s.setStream i (some (learnedEntry x c.phase (failingSamples c.sets))) with tableCount := s.tableCount + 1 }.storeLearned x
        none c.sets := by
  have learns : s.learns x = true := by rw [State.learns, unknown, free]; rfl
  have gone : s.replaced x = none := by rw [State.replaced, free]; exact if_pos (.inr rfl)
  simp only [State.takePacket, State.takeStream, unknown, free, learns, gone, if_true]

/-- A stream learned in the place of the lowest entry of age 3 (R63). -/
theorem State.takePacket_of_replaced {i : Fin 48} {old : StreamEntry} (unknown : s.findStream x = none) (full : s.lowestFree = none)
    (aged : s.lowestReplaceable = some i) (entry : s.streams[i] = some old) (c : CarriagePayload) :
    s.takePacket x c =
      (s.setStream i (some (learnedEntry x c.phase (failingSamples c.sets)))).storeLearned x (some old.source) c.sets := by
  have learns : s.learns x = true := by rw [State.learns, unknown, aged, full]; rfl
  have gone : s.replaced x = some old.source := by
    rw [State.replaced, full, unknown, aged, if_neg (by simp), Option.bind_some, entry]
    rfl
  simp only [State.takePacket, State.takeStream, unknown, full, aged, learns, gone, if_true]

/-- A stream that finds no place (R64). -/
theorem State.takePacket_of_full (unknown : s.findStream x = none) (full : s.lowestFree = none)
    (young : s.lowestReplaceable = none) (c : CarriagePayload) :
    s.takePacket x c = (s.raise .streamTableFull).storeAll x c.sets := by
  have learns : s.learns x = false := by rw [State.learns, unknown, young, full]; rfl
  simp only [State.takePacket, State.takeStream, unknown, full, young, learns, Bool.false_eq_true, if_false]

theorem State.hasStream_setStream (i : Fin 48) (e : StreamEntry) (s : State) :
    (s.setStream i (some e)).hasStream e.source = true :=
  (State.hasStream_iff _ _).mpr ⟨i, e, State.setStream_same _ _ _, rfl⟩

end

/-- A packet that the table has learned: the table, the lanes and the open window behind its sets and its events, where `a`
is `s` but for its table and what no lane looks at. -/
theorem State.storeLearned_taught {s a : State} {x : Source} {gone : Option Source} {sets : List CheckedSet}
    (new : gone ≠ some x) (known : a.hasStream x = true) (few : sets.length ≤ 2048) (lanes : a.lanes = s.lanes)
    (views : ∀ l, a.laneView l = s.laneView l) (probe : a.probe = s.probe)
    (record : a.notice .streamTableFull = s.notice .streamTableFull) :
    (a.storeLearned x gone sets).streams = a.streams ∧ (a.storeLearned x gone sets).tableCount = a.tableCount ∧
    (a.storeLearned x gone sets).notice .streamTableFull = s.notice .streamTableFull ∧
    (∀ l, LaneTaught s (a.storeLearned x gone sets) x gone True sets (a.setsBefore sets.length).1
      (a.setsBefore sets.length).2 l) ∧
    WindowFollows s (a.storeLearned x gone sets) fun l =>
      LaneFailsOver s (a.storeLearned x gone sets) gone l ∨ LaneReturns s (a.storeLearned x gone sets) x l := by
  have learned := State.storeLearned_sets new known sets
  have frame := a.storeLearned_frame x gone sets
  refine ⟨(congrArg State.streams frame :), (congrArg State.tableCount frame :), ?_, learned.taught new few lanes views,
    (learned.window.of_probe probe.symm rfl).of_iff fun l => ?_⟩
  · rw [State.storeLearned_notice_other a x gone sets (by nofun) (by nofun), record]
  · rw [laneFailsOver_congr lanes, laneReturns_congr lanes]

/-- Settles O15: the table's three cases, each with the sets and the events at the lanes (`State.storeLearned_sets`). -/
theorem takenPacketTeachesTheTable : Obligations.TakenPacketTeachesTheTable := by
  unfold Obligations.TakenPacketTeachesTheTable
  intro s p k c x reading kind good take payload source unknown
  have executed := exec_packetComplete_taken reading kind good take payload
  rw [← source] at executed
  obtain ⟨-, -, -, short, -⟩ := reading
  have few : c.sets.length ≤ 2048 := (readCarriage_sets_length payload).trans (short.trans (by decide))
  have noted := s.packetNoted_frame p k
  have views := s.packetNoted_laneView p k
  have others : ∀ n, (∀ (q : Feed) (d : RuleIndex), n ≠ .tallyReached q d) → (s.packetNoted p k).notice n = s.notice n :=
    fun n hn => State.packetNoted_notice_other p k hn s
  generalize s.packetNoted p k = u at noted views others executed
  have streams : u.streams = s.streams := (congrArg State.streams noted :)
  have count : u.tableCount = s.tableCount := (congrArg State.tableCount noted :)
  have lanes : u.lanes = s.lanes := (congrArg State.lanes noted :)
  have probe : u.probe = s.probe := (congrArg State.probe noted :)
  have fullRecord : u.notice .streamTableFull = s.notice .streamTableFull := others _ (by nofun)
  have new : u.findStream x = none :=
    (State.findStream_congr streams x).trans ((State.findStream_eq_none_iff x s).mpr unknown)
  obtain ⟨ordered, bounded⟩ := u.setsBefore_ordered c.sets.length
  refine ⟨u.takePacket x c, _, _, executed, ordered, bounded, ?frame, fun i free first => ?learned,
    fun i old full entry age first => ?replaced, fun young => ?full, fun n tally overrun failover tableFull => ?others⟩
  case frame =>
    have frame := u.takePacket_frame x c
    generalize u.takePacket x c = t at frame
    rw [frame, noted]
  case learned =>
    have free' : u.lowestFree = some i :=
      State.lowestFree_of_first (by rw [streams]; exact free) fun j before => by rw [streams]; exact first j before
    rw [State.takePacket_of_free new free']
    generalize ha : ({ u.setStream i (some (learnedEntry x c.phase (failingSamples c.sets))) with
      tableCount := u.tableCount + 1 } : State) = a
    have same : a = { u with streams := a.streams, tableCount := u.tableCount + 1 } := by rw [← ha]; rfl
    have entries : a.streams = s.streams.set i (some (learnedEntry x c.phase (failingSamples c.sets))) := by
      rw [← ha, ← streams]
      rfl
    have known : a.hasStream x = true := by
      rw [← ha]
      exact State.hasStream_setStream i _ u
    have split : u.setsBefore c.sets.length = a.setsBefore c.sets.length := by rw [← ha]; rfl
    obtain ⟨table, counted, record, taught, window⟩ := State.storeLearned_taught (s := s) (a := a) (gone := none) nofun known
      few (by rw [same, ← lanes]) (fun l => by rw [same, ← views]; rfl) (by rw [same, ← probe]) (by rw [same]; exact fullRecord)
    rw [split]
    exact ⟨table.trans entries, by rw [counted, same, count], record, taught,
      window.of_iff fun l => or_iff_right (not_laneFailsOver_none l)⟩
  case replaced =>
    have noFree : u.lowestFree = none := State.lowestFree_of_full (by rw [streams]; exact full)
    have entry' : u.streams[i] = some old := by rw [streams]; exact entry
    have aged : u.lowestReplaceable = some i := State.lowestReplaceable_of_first entry' age (by rw [streams]; exact first)
    rw [State.takePacket_of_replaced new noFree aged entry']
    generalize ha : u.setStream i (some (learnedEntry x c.phase (failingSamples c.sets))) = a
    have same : a = { u with streams := a.streams } := by rw [← ha]; rfl
    have entries : a.streams = s.streams.set i (some (learnedEntry x c.phase (failingSamples c.sets))) := by
      rw [← ha, ← streams]
      rfl
    have known : a.hasStream x = true := by
      rw [← ha]
      exact State.hasStream_setStream i _ u
    have split : u.setsBefore c.sets.length = a.setsBefore c.sets.length := by rw [← ha]; rfl
    obtain ⟨table, counted, record, taught, window⟩ := State.storeLearned_taught (s := s) (a := a) (gone := some old.source)
      (fun e => unknown i old entry (Option.some.inj e)) known few (by rw [same, ← lanes]) (fun l => by rw [same, ← views]; rfl)
      (by rw [same, ← probe]) (by rw [same]; exact fullRecord)
    rw [split]
    exact ⟨table.trans entries, by rw [counted, same, count], record, taught, window⟩
  case full =>
    have noFree : u.lowestFree = none := State.lowestFree_of_full fun j h => by
      rw [streams] at h
      obtain ⟨e, entry, -⟩ := young j
      exact Option.some_ne_none e (entry.symm.trans h)
    have noOld : u.lowestReplaceable = none := State.lowestReplaceable_of_young (by rw [streams]; exact young)
    have taught := fun l => State.storeAll_taught (s := s) (a := u.raise .streamTableFull) (x := x) (sets := c.sets)
      (n := (u.setsBefore c.sets.length).1)
      (m := (u.setsBefore c.sets.length).2)
      (fun l => (State.laneView_of_same (s := u) (t := u.raise .streamTableFull) rfl (State.notice_raise_other _ (by nofun))
        (State.notice_raise_other _ (by nofun))).trans (views l)) l
    rw [State.takePacket_of_full new noFree noOld]
    have frame := (u.raise .streamTableFull).storeAll_frame x c.sets
    have record := State.storeAll_notice_other (n := .streamTableFull) (by nofun) x c.sets (u.raise .streamTableFull)
    generalize (u.raise .streamTableFull).storeAll x c.sets = t at frame taught record
    refine ⟨?_, ?_, ?_, taught, ?_⟩
    · exact (congrArg State.streams frame :).trans streams
    · exact (congrArg State.tableCount frame :).trans count
    · rw [record, State.notice_raise_same, fullRecord]
    · exact (congrArg State.probe frame :).trans probe
  case others =>
    rw [State.takePacket_notice_other u x c tableFull overrun failover]
    exact others n tally

end Sys2Proof.Machine
end

section
/-! SUPPORT. COMMAND packets addressed to the part (R149 to R152): what the packet leaves on the line, and the command that the
control channel takes. -/

namespace Sys2Proof.Machine

/-! ### The broadcast that executes (R152) -/

theorem decodeRead_ne_swapRoutes (args : List Nat) (feeds : Nat) : decodeRead args ≠ .ok (.swapRoutes feeds) := by
  intro h
  unfold decodeRead at h
  split at h
  · cases h
  · split at h
    · split at h
      · split at h <;> cases h
      · cases h
    · cases h

theorem decodeWrite_ne_swapRoutes (args : List Nat) (feeds : Nat) : decodeWrite args ≠ .ok (.swapRoutes feeds) := by
  intro h
  unfold decodeWrite at h
  split at h
  · cases h
  · split at h
    case h_6 => cases h
    all_goals split at h <;> cases h

/-- The one code that decodes to SWAP-ROUTES (R17, R126). -/
theorem decodeCode_swapRoutes {code feeds : Nat} {args : List Nat} (h : decodeCode code args = .ok (.swapRoutes feeds)) :
    code = 3 ∧ args = [feeds] := by
  unfold decodeCode at h
  split at h
  case h_1 => exact absurd h (decodeRead_ne_swapRoutes args feeds)
  case h_2 => exact absurd h (decodeWrite_ne_swapRoutes args feeds)
  case h_3 =>
    split at h
    · obtain rfl := Op.swapRoutes.inj (Except.ok.inj h)
      exact ⟨rfl, rfl⟩
    · cases h
  case h_14 => cases h
  all_goals split at h <;> cases h

theorem Command.broadcastSwap?_eq_some_iff (c : Command) (feeds : Nat) :
    c.broadcastSwap? = some feeds ↔
      feeds ≤ 255 ∧ c.sumGood = true ∧ c.ragged = false ∧ ∃ address tag, c.fields = [address, tag, 3, feeds] := by
  constructor
  · intro swap
    unfold Command.broadcastSwap? at swap
    split at swap
    next named decoded =>
      split at swap
      next set =>
        obtain rfl := Option.some.inj swap
        unfold Command.decode at decoded
        split at decoded
        · cases decoded
        next whole =>
          obtain ⟨good, ragged⟩ := not_or.mp fun h => whole (Bool.or_eq_true_iff.mpr h)
          refine ⟨set, by simpa using good, by simpa using ragged, ?_⟩
          split at decoded
          next address tag code args fields =>
            obtain ⟨rfl, rfl⟩ := decodeCode_swapRoutes decoded
            exact ⟨address, tag, fields⟩
          · cases decoded
      · cases swap
    · cases swap
  · rintro ⟨set, good, whole, address, tag, fields⟩
    have decoded : c.decode = .ok (.swapRoutes feeds) := by
      rw [Command.decode, good, whole, fields]
      rfl
    rw [Command.broadcastSwap?, decoded]
    exact if_pos set

/-! ### The packet and its command (R149) -/

/-- The words of a COMMAND packet addressed to the part, read: it stands on the carried line when it is left on the feed. -/
def State.commandRead (p : Feed) (k : Packet) (left : Bool) (s : State) : State :=
  { s with
    ports := s.ports.set p { s.ports[p] with reader := [] }
    outputs := s.outputs.set p (s.outputs[p].carrying fun l => { l with
      blanking := l.blanking + k.payload.length + 3
      packets := l.packets ++ if left then [{ packet := k, origin := .leftCommand }] else [] }) }

theorem exec_packetComplete_command {s : State} {p : Feed} {k : Packet} {address : Nat} (reading : s.Reading p k)
    (control : s.settings.controlFeed = p) (kind : k.kind = kindCommand) (first : (readFields k.payload).head? = some address)
    (own : address = s.deviceAddress.val ∨ address = 15) :
    exec (.packetComplete (.bare p) k.kind k.payload k.sum) s =
      .next ((s.commandRead p k (s.leftOnFeed (Command.ofPayload k.payload k.good))).submit
        (Command.ofPayload k.payload k.good)) := by
  have addressed : (s.blankingRead p (k.payload.length + 3) []).addressed p k = true := by
    show (k.kind == kindCommand && s.settings.controlFeed == p && (match (readFields k.payload).head? with
      | none => false
      | some a => a == s.deviceAddress.val || a == 15)) = true
    rw [kind, control, first]
    simpa using own
  rw [exec_packetComplete_bare reading, State.packetArrives_of_addressed addressed]
  refine congrArg Host.Outcome.next ?_
  unfold State.commandArrives
  generalize Command.ofPayload k.payload k.good = c
  have same : (s.blankingRead p (k.payload.length + 3) []).leftOnFeed c = s.leftOnFeed c := rfl
  dsimp only
  rw [same]
  cases s.leftOnFeed c with
  | false =>
    have read : s.commandRead p k false = s.blankingRead p (k.payload.length + 3) [] := by
      simp only [State.commandRead, State.blankingRead, Bool.false_eq_true, if_false, List.append_nil, Nat.add_assoc]
    rw [read]
    rfl
  | true =>
    have read : s.commandRead p k true =
        (s.blankingRead p (k.payload.length + 3) []).handToLine p { packet := k, origin := .leftCommand } := by
      rw [State.handToLine, State.updateCarried_eq]
      simp only [State.commandRead, State.blankingRead, vector_set_same, Vector.set_set, if_true]
      rw [Output.carrying_carrying]
      · rfl
      · exact fun _ => rfl
    rw [read]
    rfl

theorem Command.eq_ownCommand {s : State} {c : Command} {fields : List Nat} (address : c.fields = s.deviceAddress.val :: fields)
    (whole : c.ragged = false) (good : c.sumGood = true) (direct : c.broadcast = false) : c = s.ownCommand fields := by
  obtain ⟨cf, cr, cg, cb⟩ := c
  subst address whole good direct
  rfl

/-- Settles O16: the packet is read and its command taken (`exec_packetComplete_command`); the rest is the control channel's. -/
theorem commandPacketIsTaken : Obligations.CommandPacketIsTaken := by
  unfold Obligations.CommandPacketIsTaken
  intro s u p k address c reading control kind first own hc hu
  have executed := exec_packetComplete_command reading control kind first own
  have command : Command.ofPayload k.payload k.good = c := by
    have ragged : (k.payload.length % 3 != 0) = decide (k.payload.length % 3 ≠ 0) := by
      rw [Bool.eq_iff_iff, bne_iff_ne, decide_eq_true_iff]
    have all : (some address == some 15) = decide (address = 15) := by
      rw [Bool.eq_iff_iff, beq_iff_eq, decide_eq_true_iff, Option.some_inj]
    rw [hc, Command.ofPayload, first, ragged, all]
  have broadcast : c.broadcast = decide (address = 15) := by rw [hc]
  have left : s.leftOnFeed c = true ↔ address = 15 ∨ 4 ≤ s.commandQueue.length := by
    rw [State.leftOnFeed, broadcast, Bool.or_eq_true_iff, decide_eq_true_iff, decide_eq_true_iff]
  have read : s.commandRead p k (s.leftOnFeed c) = u := by
    rw [hu, State.commandRead]
    simp only [left]
  rw [command, read] at executed
  have queue : u.commandQueue = s.commandQueue := by rw [hu]
  have replies : u.replyQueue = s.replyQueue := by rw [hu]
  have device : u.deviceAddress = s.deviceAddress := by rw [hu]
  have routes : u.routes = s.routes := by rw [hu]
  have records : ∀ n, u.notice n = s.notice n := fun n => by rw [hu]; rfl
  have head : c.fields.head? = some address := by rw [hc]; exact first
  clear hu read left command
  rw [executed]
  refine ⟨fun head rest waiting addressed full => ⟨fun room => ?_, fun lost => ?_⟩, fun empty direct room => ?_,
    fun empty direct full => ?_, fun empty all => ⟨fun tag feeds armed good whole fields set h => ?_, fun unfit => ?_⟩,
    fun row fields hrow direct good whole hfields => ?_⟩
  · obtain ⟨queued, -⟩ := fullQueuesStallTheChannel u head rest (queue.trans waiting) addressed (by rw [replies]; exact full)
    rw [queued c (by rw [queue]; exact room), queue]
  · have stalled : u.submit c = u.raise .commandOverrun := by
      rw [State.submit, State.takeCommand_of_full (by rw [queue]; exact lost), State.runQueue]
      exact State.executeHeads_stalled (s := u.raise .commandOverrun) (queue.trans waiting) addressed
        (by rw [State.raise_replyQueue, replies]; exact full) _
    refine ⟨_, congrArg Host.Outcome.next stalled, rfl, ?_, fun n hn => ?_⟩
    · rw [State.notice_raise_same, records]
    · rw [State.notice_raise_other _ hn, records]
  · have single : c.broadcast = false := by rw [broadcast]; exact decide_eq_false direct
    rw [State.submit_ready ⟨queue.trans empty, by rw [replies]; exact room⟩ c single, ← device]
    rfl
  · have single : c.broadcast = false := by rw [broadcast]; exact decide_eq_false direct
    rw [State.submit, State.takeCommand_of_room (by rw [queue, empty]; decide), queue, empty, State.runQueue]
    refine congrArg Host.Outcome.next (State.executeHeads_stalled (s := { u with commandQueue := [c] }) rfl single ?_ _)
    rw [replies]
    exact full
  · have every : c.broadcast = true := by rw [broadcast]; exact decide_eq_true all
    have swap := (c.broadcastSwap?_eq_some_iff feeds).mpr ⟨set, good, whole, 15, tag, fields⟩
    rw [State.submit_broadcast (queue.trans empty) c every, State.executeBroadcast, swap]
    exact congrArg Host.Outcome.next (State.armSwaps_eq (by rw [routes]; exact h))
  · have every : c.broadcast = true := by rw [broadcast]; exact decide_eq_true all
    have noSwap : c.broadcastSwap? = none := by
      cases swap : c.broadcastSwap? with
      | none => rfl
      | some feeds =>
        obtain ⟨set, good, whole, a, tag, fields⟩ := (c.broadcastSwap?_eq_some_iff feeds).mp swap
        rw [fields] at head
        obtain rfl : a = 15 := (Option.some.inj head).trans all
        exact absurd ⟨good, whole, fields⟩ (unfit tag feeds set)
    rw [State.submit_broadcast (queue.trans empty) c every, State.executeBroadcast, noSwap]
  · have single : address ≠ 15 := by
      have below := s.deviceAddress.isLt
      omega
    have direct' : c.broadcast = false := by rw [broadcast]; exact decide_eq_false single
    have taken : c = u.ownCommand fields := Command.eq_ownCommand (by rw [hfields, direct, device]) whole good direct'
    rw [hrow, ← taken]

end Sys2Proof.Machine
end

section
/-! SUPPORT. House ticks: the rows that tick, the order of the consumers, and what a tick delivers before it reaches them (R38 to
R40, R51, R159). -/

namespace Sys2Proof.Machine

/-! ### One member of a list of turns -/

/-- What the turn of one member makes of a state, through the turns of all the others. -/
theorem forList_turn {α : Type} (P Q : State → Prop) (f : α → State → State) {l : List α} {x : α} (mem : x ∈ l)
    (distinct : l.Nodup) {s : State} (hs : P s) (before : ∀ y t, y ≠ x → P t → P (f y t)) (turn : ∀ t, P t → Q (f x t))
    (behind : ∀ y t, y ≠ x → Q t → Q (f y t)) : Q (forList f l s) := by
  obtain ⟨front, back, rfl⟩ := List.append_of_mem mem
  rw [List.nodup_middle, List.nodup_cons, List.mem_append, not_or] at distinct
  obtain ⟨⟨notFront, notBack⟩, -⟩ := distinct
  have reached : P (forList f front s) := forList_keeps P f front s hs fun y hy t =>
    before y t (ne_of_mem_of_not_mem hy notFront)
  rw [forList_append]
  exact forList_keeps Q f back (f x (forList f front s)) (turn _ reached) fun y hy t =>
    behind y t (ne_of_mem_of_not_mem hy notBack)

/-! ### The order of the consumers (R39) -/

theorem drawn_perm {α : Type} (pick : Nat → Nat) (l : List α) : (drawn pick l.length l).Perm l := by
  suffices h : ∀ n (l : List α), l.length = n → (drawn pick n l).Perm l from h _ l rfl
  intro n
  induction n with
  | zero =>
    intro l empty
    rw [List.length_eq_zero_iff.mp empty]
    exact .refl _
  | succ n ih =>
    intro l length
    have inside : pick n % l.length < l.length := Nat.mod_lt _ (by omega)
    have rest := ih (l.eraseIdx (pick n % l.length)) (by rw [List.length_eraseIdx_of_lt inside, length]; rfl)
    have drawn_cons : drawn pick (n + 1) l =
        l[pick n % l.length] :: drawn pick n (l.eraseIdx (pick n % l.length)) := by
      simp only [drawn, List.getElem?_eq_getElem inside]
    rw [drawn_cons]
    exact (rest.cons _).trans (List.getElem_cons_eraseIdx_perm inside)

theorem State.tickOrder_perm (s : State) : s.tickOrder.Perm tickConsumers := by
  unfold State.tickOrder
  split
  · exact drawn_perm _ _
  · exact .refl _

theorem TickConsumer.mem_all (c : TickConsumer) : c ∈ tickConsumers := by
  cases c with
  | table => exact List.mem_cons_self
  | probe => exact List.mem_cons_of_mem _ List.mem_cons_self
  | path p => exact List.mem_append_right _ (List.mem_map_of_mem (List.mem_finRange p))

theorem tickConsumers_nodup : tickConsumers.Nodup := by decide

theorem State.tickOrder_mem (s : State) (c : TickConsumer) : c ∈ s.tickOrder := s.tickOrder_perm.mem_iff.mpr c.mem_all

theorem State.tickOrder_nodup (s : State) : s.tickOrder.Nodup := s.tickOrder_perm.nodup_iff.mpr tickConsumers_nodup

/-! ### What the consumers leave -/

section
variable {s : State} {n : Notice}

theorem State.sweepTable_notice_other (failover : ∀ l, n ≠ .laneFailover l) (s : State) :
    s.sweepTable.notice n = s.notice n := by
  unfold State.sweepTable
  dsimp only
  rw [(LanesTurn.refl _).onSweepDone.quiet n fun l _ => failover l,
    ((LanesTurn.refl _).removals (s.sourcesWhere StreamEntry.sweptAway)).quiet n fun l _ => failover l]
  rfl

theorem State.tickTable_notice_other (failover : ∀ l, n ≠ .laneFailover l) (s : State) :
    s.tickTable.notice n = s.notice n := by
  unfold State.tickTable State.settleSweep
  split
  · exact State.sweepTable_notice_other failover _
  · rfl

theorem State.probeTick_notices (s : State) : s.probeTick.notices = s.notices := by
  unfold State.probeTick
  split <;> rfl

theorem State.tickPath_notice_other (p : Feed) (shortfall : n ≠ .carriageShortfall p) (done : n ≠ .probeDone) (s : State) :
    (s.tickPath p).notice n = s.notice n := by
  unfold State.tickPath
  split
  · rfl
  · dsimp only
    split
    · rw [State.feedFrameStart_notice_other _ _ _ shortfall done, State.endAtTick_frame]
      rfl
    · rw [State.cutLine_frame]
      rfl

theorem TickConsumer.act_notice_other (failover : ∀ l, n ≠ .laneFailover l) (shortfall : ∀ p, n ≠ .carriageShortfall p)
    (done : n ≠ .probeDone) (c : TickConsumer) (s : State) : (c.act s).notice n = s.notice n := by
  cases c with
  | table => exact State.tickTable_notice_other failover s
  | probe => exact State.notice_congr s.probeTick_notices n
  | path p => exact State.tickPath_notice_other p (shortfall p) done s

end

/-! ### The watches at a tick (R51) -/

/-- What a tick makes of one watch, and of its notice. -/
theorem State.tickWatch_other {p q : Feed} {e d : RuleIndex} (h : q ≠ p ∨ d ≠ e) (s : State) :
    (s.tickWatch p e).rules[q][d] = s.rules[q][d] ∧
      (s.tickWatch p e).notice (.watchExpired q d) = s.notice (.watchExpired q d) := by
  have notice : Notice.watchExpired q d ≠ .watchExpired p e := fun same => by
    obtain ⟨feed, entry⟩ := Notice.watchExpired.inj same
    exact h.elim (· feed) (· entry)
  unfold State.tickWatch State.settleAbsence State.expireWatch
  dsimp only
  split
  · split
    · exact ⟨(State.setRule_other _ _ _ _ h).trans (State.setRule_other _ _ _ _ h), State.notice_raise_other _ notice⟩
    · exact ⟨State.setRule_other _ _ _ _ h, rfl⟩
  · exact ⟨rfl, rfl⟩

theorem State.tickWatch_notice_other {n : Notice} (p : Feed) (e : RuleIndex) (h : n ≠ .watchExpired p e) (s : State) :
    (s.tickWatch p e).notice n = s.notice n := by
  unfold State.tickWatch State.settleAbsence State.expireWatch
  dsimp only
  split
  · split
    · exact State.notice_raise_other _ h
    · rfl
  · rfl

theorem State.tickWatches_notice_other {n : Notice} (h : ∀ p e, n ≠ .watchExpired p e) (s : State) :
    s.tickWatches.notice n = s.notice n :=
  forEach_same (fun t => t.notice n) _ s fun p t => forEach_same (fun t => t.notice n) _ t fun e u =>
    State.tickWatch_notice_other p e (h p e) u

section
variable {s t : State} {p : Feed} {e : RuleIndex}

theorem RuleEntry.absenceReached_iff (r : RuleEntry) :
    r.absenceReached = true ↔ r.watchMode = .absence ∧ r.watchState = .armed ∧ r.watchCount = r.watchLimit := by
  simp [RuleEntry.absenceReached, and_assoc]

theorem RuleEntry.tallyReached_iff (r : RuleEntry) :
    r.tallyReached = true ↔ r.watchMode = .tally ∧ r.watchCount = r.watchLimit := by
  simp [RuleEntry.tallyReached]

theorem State.expireWatch_entry (p : Feed) (e : RuleIndex) (s : State) :
    (s.expireWatch p e).rules[p][e] = { s.rules[p][e] with watchState := .expired } ∧
      (s.expireWatch p e).notice (.watchExpired p e) =
        { raised := true, generation := ((s.notice (.watchExpired p e)).generation + 1) % 256 } :=
  ⟨State.setRule_same _ _ _ _, State.notice_raise_same _ _⟩

/-- The watch of an entry at a tick, by its mode, its state and its limit (R51). -/
theorem State.tickWatch_entry (s : State) (p : Feed) (e : RuleIndex) :
    (s.rules[p][e].watchMode = .absence → s.rules[p][e].watchState = .armed →
      s.rules[p][e].watchCount + 1 ≠ s.rules[p][e].watchLimit →
      (s.tickWatch p e).rules[p][e] = { s.rules[p][e] with watchCount := s.rules[p][e].watchCount + 1 } ∧
      (s.tickWatch p e).notice (.watchExpired p e) = s.notice (.watchExpired p e)) ∧
    (s.rules[p][e].watchMode = .absence → s.rules[p][e].watchState = .armed →
      s.rules[p][e].watchCount + 1 = s.rules[p][e].watchLimit →
      (s.tickWatch p e).rules[p][e] =
        { s.rules[p][e] with watchCount := s.rules[p][e].watchCount + 1, watchState := .expired } ∧
      (s.tickWatch p e).notice (.watchExpired p e) =
        { raised := true, generation := ((s.notice (.watchExpired p e)).generation + 1) % 256 }) ∧
    (s.rules[p][e].watchMode ≠ .absence ∨ s.rules[p][e].watchState = .expired →
      (s.tickWatch p e).rules[p][e] = s.rules[p][e] ∧
      (s.tickWatch p e).notice (.watchExpired p e) = s.notice (.watchExpired p e)) := by
  have counted (absence : s.rules[p][e].watchMode = .absence) (armed : s.rules[p][e].watchState = .armed) :
      s.tickWatch p e =
        (s.setRule p e { s.rules[p][e] with watchCount := s.rules[p][e].watchCount + 1 }).settleAbsence p e :=
    if_pos ⟨absence, armed⟩
  refine ⟨fun absence armed below => ?_, fun absence armed met => ?_, fun quiet => ?_⟩
  · rw [counted absence armed, State.settleAbsence, State.setRule_same]
    rw [if_neg fun reached => below ((RuleEntry.absenceReached_iff _).mp reached).2.2]
    exact ⟨State.setRule_same _ _ _ _, rfl⟩
  · have reached : ({ s.rules[p][e] with watchCount := s.rules[p][e].watchCount + 1 } : RuleEntry).absenceReached = true :=
      (RuleEntry.absenceReached_iff _).mpr ⟨absence, armed, met⟩
    rw [counted absence armed, State.settleAbsence, State.setRule_same, if_pos reached]
    obtain ⟨rule, record⟩ := State.expireWatch_entry p e
      (s.setRule p e { s.rules[p][e] with watchCount := s.rules[p][e].watchCount + 1 })
    rw [State.setRule_same] at rule
    exact ⟨rule, record⟩
  · have stands : s.tickWatch p e = s := if_neg fun ⟨absence, armed⟩ =>
      quiet.elim (fun h => h absence) fun h => WatchState.noConfusion (armed.symm.trans h)
    rw [stands]
    exact ⟨rfl, rfl⟩

/-- Two states agree on the watch of an entry and on the record of its notice. -/
def State.SameWatch (p : Feed) (e : RuleIndex) (s t : State) : Prop :=
  t.rules[p][e] = s.rules[p][e] ∧ t.notice (.watchExpired p e) = s.notice (.watchExpired p e)

/-- A watch and its record at a tick depend on themselves alone. -/
theorem State.SameWatch.tickWatch (h : State.SameWatch p e s t) :
    State.SameWatch p e (s.tickWatch p e) (t.tickWatch p e) := by
  obtain ⟨rule, record⟩ := h
  obtain ⟨below, limit, quiet⟩ := s.tickWatch_entry p e
  obtain ⟨below', limit', quiet'⟩ := t.tickWatch_entry p e
  rw [rule, record] at below' limit' quiet'
  by_cases absence : s.rules[p][e].watchMode = .absence
  · cases state : s.rules[p][e].watchState with
    | armed =>
      by_cases met : s.rules[p][e].watchCount + 1 = s.rules[p][e].watchLimit
      · obtain ⟨r, n⟩ := limit absence state met
        obtain ⟨r', n'⟩ := limit' absence state met
        exact ⟨r'.trans r.symm, n'.trans n.symm⟩
      · obtain ⟨r, n⟩ := below absence state met
        obtain ⟨r', n'⟩ := below' absence state met
        exact ⟨r'.trans r.symm, n'.trans n.symm⟩
    | expired =>
      obtain ⟨r, n⟩ := quiet (.inr state)
      obtain ⟨r', n'⟩ := quiet' (.inr state)
      exact ⟨r'.trans r.symm, n'.trans n.symm⟩
  · obtain ⟨r, n⟩ := quiet (.inl absence)
    obtain ⟨r', n'⟩ := quiet' (.inl absence)
    exact ⟨r'.trans r.symm, n'.trans n.symm⟩

end

/-- What all the turns of a tick make of one watch and its record: what its own turn makes of them. -/
theorem State.tickWatches_at (s : State) (p : Feed) (e : RuleIndex) :
    State.SameWatch p e (s.tickWatch p e) s.tickWatches := by
  have keeps : ∀ (r : State) (q : Feed) (d : RuleIndex) (t : State), q ≠ p ∨ d ≠ e → State.SameWatch p e r t →
      State.SameWatch p e r (t.tickWatch q d) := fun r q d t h ⟨rule, record⟩ => by
    obtain ⟨rule', record'⟩ := State.tickWatch_other (h.imp Ne.symm Ne.symm) t
    exact ⟨rule'.trans rule, record'.trans record⟩
  have row : ∀ t, State.SameWatch p e s t →
      State.SameWatch p e (s.tickWatch p e) (forEach (fun d u => u.tickWatch p d) t) := fun t ht =>
    forEach_turn (State.SameWatch p e s) (State.SameWatch p e (s.tickWatch p e)) _ t e ht
      (fun d u hd => keeps s p d u (.inr hd)) (fun u => State.SameWatch.tickWatch)
      fun d u hd => keeps (s.tickWatch p e) p d u (.inr hd)
  exact forEach_turn (State.SameWatch p e s) (State.SameWatch p e (s.tickWatch p e))
    (fun q t => forEach (fun d u => u.tickWatch q d) t) s p ⟨rfl, rfl⟩
    (fun q t hq ht => forEach_keeps (State.SameWatch p e s) _ t ht fun d u => keeps s q d u (.inl hq)) row
    fun q t hq ht => forEach_keeps (State.SameWatch p e (s.tickWatch p e)) _ t ht
      fun d u => keeps (s.tickWatch p e) q d u (.inl hq)

/-! ### The tick -/

section
variable (s : State)

theorem State.tickCounted_frame : s.tickCounted = { s with
    tick := { s.tick with count := (s.tick.count + 1) % 256 }, rules := s.tickCounted.rules
    notices := s.tickCounted.notices, beaconPending := s.beaconPending || s.settings.beaconEnabled
    freeCount := s.freeCount + 1 } := by
  have frame := (s.setTick { s.tick with count := (s.tick.count + 1) % 256 }).tickWatches_frame
  have whole : ∀ w, (s.setTick { s.tick with count := (s.tick.count + 1) % 256 }).tickWatches = w → s.tickCounted =
      { w with beaconPending := s.beaconPending || s.settings.beaconEnabled, freeCount := s.freeCount + 1 } := fun w hw => by
    rw [← hw]
    delta State.tickCounted
    with_reducible rfl
  generalize (s.setTick { s.tick with count := (s.tick.count + 1) % 256 }).tickWatches = w at frame whole
  rw [whole w rfl, frame]
  rfl

theorem State.tickCounted_rules : s.tickCounted.rules =
    (s.setTick { s.tick with count := (s.tick.count + 1) % 256 }).tickWatches.rules := by
  delta State.tickCounted
  with_reducible rfl

theorem State.tickCounted_notices : s.tickCounted.notices =
    (s.setTick { s.tick with count := (s.tick.count + 1) % 256 }).tickWatches.notices := by
  delta State.tickCounted
  with_reducible rfl

theorem State.tickCounted_notice_other {n : Notice} (h : ∀ p e, n ≠ .watchExpired p e) :
    s.tickCounted.notice n = s.notice n := by
  rw [State.notice_congr s.tickCounted_notices, State.tickWatches_notice_other h]
  rfl

theorem State.tickCounted_watch (p : Feed) (e : RuleIndex) : State.SameWatch p e (s.tickWatch p e) s.tickCounted := by
  obtain ⟨rule, record⟩ := (s.setTick { s.tick with count := (s.tick.count + 1) % 256 }).tickWatches_at p e
  have same : State.SameWatch p e s (s.setTick { s.tick with count := (s.tick.count + 1) % 256 }) := ⟨rfl, rfl⟩
  obtain ⟨rule', record'⟩ := same.tickWatch
  constructor
  · rw [s.tickCounted_rules, rule, rule']
  · rw [State.notice_congr s.tickCounted_notices, record, record']

/-- What a tick never touches behind its delivery (R39). -/
theorem State.houseTick_frame : s.houseTick = { s.tickCounted with
    lanes := s.houseTick.lanes, probe := s.houseTick.probe, notices := s.houseTick.notices, streams := s.houseTick.streams
    tableCount := s.houseTick.tableCount, sweepCounter := s.houseTick.sweepCounter
    sweepReached := s.houseTick.sweepReached, freeCount := s.houseTick.freeCount, carriage := s.houseTick.carriage
    routes := s.houseTick.routes, regulators := s.houseTick.regulators, paths := s.houseTick.paths
    rasters := s.houseTick.rasters, outputs := s.houseTick.outputs, written := s.houseTick.written } :=
  State.eq_of_veilTick fun d => tickConsumers_veil d s.tickOrder s.tickCounted

theorem State.houseTick_rules : s.houseTick.rules = s.tickCounted.rules := by
  have frame := s.houseTick_frame
  generalize s.houseTick = t at frame ⊢
  generalize s.tickCounted = u at frame ⊢
  rw [frame]

theorem State.houseTick_notice_other {n : Notice} (failover : ∀ l, n ≠ .laneFailover l)
    (shortfall : ∀ p, n ≠ .carriageShortfall p) (done : n ≠ .probeDone) : s.houseTick.notice n = s.tickCounted.notice n :=
  forList_same (fun t => t.notice n) _ _ _ fun c _ t => c.act_notice_other failover shortfall done t

theorem State.houseTick_tick : s.houseTick.tick = { s.tick with count := (s.tick.count + 1) % 256 } := by
  rw [(congrArg State.tick s.houseTick_frame :), s.tickCounted_frame]

end

end Sys2Proof.Machine
end

section
/-! SUPPORT. The tick generator (R38 to R40), the watches and their rows (R51, R53). -/

namespace Sys2Proof.Machine

/-- A row that ticks brings the part, at the tick, to `v`: time has passed, and the tick generator alone has acted (R39, R40). -/
structure TickBegins (s : State) (dt : Nat) (v : State) : Prop where
  frame : v = { s with now := s.now + dt, tick := v.tick, notices := v.notices }
  count : v.tick.count = s.tick.count
  quiet : ∀ n, n ≠ .houseLost → n ≠ .houseReturned → v.notice n = s.notice n

section
variable {s : State} {dt : Nat}

theorem State.pulse_of_present (h : s.tick.reference = .present) :
    s.pulse = (s.setTick { s.tick with
      period := if s.tick.lastPulse.isSome then s.tick.lastPulse.map fun i => s.now - i else s.tick.period
      lastPulse := some s.now
      absenceTimer := some s.now }).houseTick := by
  unfold State.pulse
  dsimp only
  rw [h]
  dsimp only
  cases s.tick.lastPulse with
  | none => rfl
  | some i => rfl

theorem State.pulse_of_absent (h : s.tick.reference = .absent) :
    s.pulse = ((s.setTick { s.tick with
      reference := .present, lastPulse := some s.now, absenceTimer := some s.now
      freewheelTimer := none }).raise .houseReturned).houseTick := by
  simp only [State.pulse, h]

theorem exec_housePulse (dt : Nat) (s : State) : exec (.housePulse dt) s = .next (s.elapse dt).pulse := rfl

theorem exec_absenceTimerExpiry (dt : Nat) (s : State) :
    exec (.absenceTimerExpiry dt) s =
      if s.tick.reference = .present ∧ timerDue s.tick.absenceTimer absenceTime (s.now + dt) = true then
        .next (s.elapse dt).absenceExpired
      else .next { s with now := s.now + dt } := rfl

theorem exec_freewheelTimerExpiry (dt : Nat) (s : State) :
    exec (.freewheelTimerExpiry dt) s =
      if s.tick.reference = .absent ∧ timerDue s.tick.freewheelTimer s.tick.tickPeriod (s.now + dt) = true then
        .next (s.elapse dt).freewheelExpired
      else .next { s with now := s.now + dt } := rfl

theorem exec_ticks {c : Instr} (h : Ticks c s dt) : ∃ v, exec c s = .next v.houseTick ∧ TickBegins s dt v := by
  rcases h with rfl | ⟨rfl, present, restarted, running, due⟩ | ⟨rfl, absent, restarted, running, due⟩
  · rw [exec_housePulse]
    cases reference : s.tick.reference with
    | present =>
      rw [State.pulse_of_present (s := s.elapse dt) reference]
      exact ⟨_, rfl, rfl, rfl, fun _ _ _ => rfl⟩
    | absent =>
      rw [State.pulse_of_absent (s := s.elapse dt) reference]
      exact ⟨_, rfl, rfl, rfl, fun n _ returned => State.notice_raise_other _ returned⟩
  · have expired : timerDue s.tick.absenceTimer absenceTime (s.now + dt) = true := by
      rw [running]
      exact (timerDue_some _ _ _).mpr due
    rw [exec_absenceTimerExpiry, if_pos ⟨present, expired⟩]
    exact ⟨_, rfl, rfl, rfl, fun n lost _ => State.notice_raise_other _ lost⟩
  · have expired : timerDue s.tick.freewheelTimer s.tick.tickPeriod (s.now + dt) = true := by
      rw [running]
      exact (timerDue_some _ _ _).mpr due
    rw [exec_freewheelTimerExpiry, if_pos ⟨absent, expired⟩]
    exact ⟨_, rfl, rfl, rfl, fun _ _ _ => rfl⟩

/-- A tick leaves a notice alone that neither a watch nor a consumer raises. -/
theorem State.houseTick_notice_same {n : Notice} (watch : ∀ p e, n ≠ .watchExpired p e) (failover : ∀ l, n ≠ .laneFailover l)
    (shortfall : ∀ p, n ≠ .carriageShortfall p) (done : n ≠ .probeDone) (v : State) : v.houseTick.notice n = v.notice n :=
  (v.houseTick_notice_other failover shortfall done).trans (v.tickCounted_notice_other watch)

end

/-- Settles O19: the two pulses by the reference state; every tick by `State.houseTick_frame`. -/
theorem housePulseTicks : Obligations.HousePulseTicks := by
  unfold Obligations.HousePulseTicks
  refine ⟨fun s dt => ?_, fun c s dt ticks => ?_⟩
  · have returned : ∀ v : State, v.houseTick.notice .houseReturned = v.notice .houseReturned := fun v =>
      State.houseTick_notice_same (by nofun) (by nofun) (by nofun) (by nofun) v
    refine ⟨_, exec_housePulse dt s, fun present => ?_, fun absent => ?_⟩
    · rw [State.pulse_of_present (s := s.elapse dt) present, State.houseTick_tick, returned]
      exact ⟨rfl, rfl⟩
    · rw [State.pulse_of_absent (s := s.elapse dt) absent, State.houseTick_tick, returned]
      exact ⟨rfl, State.notice_raise_same _ _⟩
  · obtain ⟨v, executed, begins, count, -⟩ := exec_ticks ticks
    have frame := v.houseTick_frame
    have counted := v.tickCounted_frame
    have tick := v.houseTick_tick
    rw [count] at tick
    generalize v.houseTick = t at executed frame tick
    generalize v.tickCounted = u at frame counted
    refine ⟨t, executed, ?_, ?_, ?_, ?_, ?_, ?_, ?_, ?_⟩
    case refine_7 => rw [tick]
    all_goals rw [frame, counted, begins]

/-- Settles O20: the two timers, due or not (`timerDue_some`). -/
theorem absenceAndFreewheelTick : Obligations.AbsenceAndFreewheelTick := by
  unfold Obligations.AbsenceAndFreewheelTick
  intro s dt restarted
  have lost : ∀ v : State, v.houseTick.notice .houseLost = v.notice .houseLost := fun v =>
    State.houseTick_notice_same (by nofun) (by nofun) (by nofun) (by nofun) v
  have returned : ∀ v : State, v.houseTick.notice .houseReturned = v.notice .houseReturned := fun v =>
    State.houseTick_notice_same (by nofun) (by nofun) (by nofun) (by nofun) v
  refine ⟨fun present running due => ?_, fun absent running due => ?_, fun early => ?_, fun early => ?_⟩
  · have expired : timerDue s.tick.absenceTimer absenceTime (s.now + dt) = true := by
      rw [running]
      exact (timerDue_some _ _ _).mpr due
    refine ⟨(s.elapse dt).absenceExpired, ?_, ?_, ?_, ?_⟩
    · rw [exec_absenceTimerExpiry, if_pos ⟨present, expired⟩]
    · rw [State.absenceExpired, State.houseTick_tick]
      rfl
    · rw [State.absenceExpired, lost]
      exact State.notice_raise_same _ _
    · rw [State.absenceExpired, returned]
      exact State.notice_raise_other _ (by nofun)
  · have expired : timerDue s.tick.freewheelTimer s.tick.tickPeriod (s.now + dt) = true := by
      rw [running]
      exact (timerDue_some _ _ _).mpr due
    refine ⟨(s.elapse dt).freewheelExpired, ?_, ?_, ?_, ?_⟩
    · rw [exec_freewheelTimerExpiry, if_pos ⟨absent, expired⟩]
    · rw [State.freewheelExpired, State.houseTick_tick]
      rfl
    · rw [State.freewheelExpired, lost]
      rfl
    · rw [State.freewheelExpired, returned]
      rfl
  · rw [exec_absenceTimerExpiry, if_neg]
    rintro ⟨present, expired⟩
    rcases early with absent | stopped | ⟨running, notDue⟩
    · exact Reference.noConfusion (present.symm.trans absent)
    · rw [stopped] at expired
      exact Bool.noConfusion expired
    · rw [running] at expired
      exact absurd ((timerDue_some _ _ _).mp expired) (Nat.not_le.mpr notDue)
  · rw [exec_freewheelTimerExpiry, if_neg]
    rintro ⟨absent, expired⟩
    rcases early with present | stopped | ⟨running, notDue⟩
    · exact Reference.noConfusion (present.symm.trans absent)
    · rw [stopped] at expired
      exact Bool.noConfusion expired
    · rw [running] at expired
      exact absurd ((timerDue_some _ _ _).mp expired) (Nat.not_le.mpr notDue)

/-- Settles O21: the watches at a tick (`State.tickCounted_watch`), and the two rows by their conditions. -/
theorem watchesCountTicksAndReport : Obligations.WatchesCountTicksAndReport := by
  unfold Obligations.WatchesCountTicksAndReport
  refine ⟨fun c s dt ticks => ?_, fun s p e => ?_⟩
  · obtain ⟨v, executed, begins, -, quiet⟩ := exec_ticks ticks
    refine ⟨v.houseTick, executed, fun p e => ?_⟩
    have same : State.SameWatch p e s v := ⟨by rw [begins], quiet _ (by nofun) (by nofun)⟩
    obtain ⟨rule, record⟩ := v.tickCounted_watch p e
    obtain ⟨rule', record'⟩ := same.tickWatch
    rw [v.houseTick_rules, v.houseTick_notice_other (by nofun) (by nofun) (by nofun), rule, record, rule', record']
    exact s.tickWatch_entry p e
  · refine ⟨fun absence armed met => ?_, fun tally met => ?_, fun unmet => ?_, fun unmet => ?_⟩
    · have expires : s.settleAbsence p e = s.expireWatch p e :=
        if_pos ((RuleEntry.absenceReached_iff _).mpr ⟨absence, armed, met⟩)
      obtain ⟨rule, record⟩ := s.expireWatch_entry p e
      exact ⟨_, congrArg Host.Outcome.next expires, rfl, rule, fun q d other => State.setRule_other _ _ _ _ other, record,
        fun n other => State.notice_raise_other _ other⟩
    · have reports : s.settleTally p e = s.reportTally p e := if_pos ((RuleEntry.tallyReached_iff _).mpr ⟨tally, met⟩)
      exact ⟨_, congrArg Host.Outcome.next reports, rfl, State.setRule_same _ _ _ _,
        fun q d other => State.setRule_other _ _ _ _ other, State.notice_raise_same _ _,
        fun n other => State.notice_raise_other _ other⟩
    · refine congrArg Host.Outcome.next (if_neg fun reached => ?_)
      obtain ⟨absence, armed, met⟩ := (RuleEntry.absenceReached_iff _).mp reached
      rcases unmet with other | expired | below
      · exact other absence
      · exact WatchState.noConfusion (armed.symm.trans expired)
      · exact below met
    · refine congrArg Host.Outcome.next (if_neg fun reached => ?_)
      obtain ⟨tally, met⟩ := (RuleEntry.tallyReached_iff _).mp reached
      exact unmet.elim (· tally) (· met)

end Sys2Proof.Machine
end

section
/-! SUPPORT. The sweep (R65 to R67): the table aged in one step, the lanes that turn behind it, and the tick that calls for it. -/

namespace Sys2Proof.Machine

/-! ### The sweep itself -/

/-- The part with its table swept, before the removals and the sweep completion reach the lanes (R65, R66). -/
def State.tableAged (s : State) : State :=
  { s with
    streams := s.streams.map fun e => (e.filter fun x => !x.sweptAway).map StreamEntry.swept
    tableCount := s.tableCount - (s.sourcesWhere StreamEntry.sweptAway).length
    sweepCounter := 0
    sweepReached := false }

theorem State.sweepTable_eq (s : State) :
    s.sweepTable = (forList State.onRemoval (s.sourcesWhere StreamEntry.sweptAway) s.tableAged).onSweepDone := by
  have aged : ({ s.freeWhere StreamEntry.sweptAway with
      streams := (s.freeWhere StreamEntry.sweptAway).streams.map fun e => e.map StreamEntry.swept
      sweepCounter := 0, sweepReached := false } : State) = s.tableAged := by
    simp only [State.freeWhere, State.tableAged, Vector.map_map, Function.comp_def]
  rw [← aged]
  rfl

/-- The lanes that the sweep turns: those that meet a check against the table swept whole (R67, R88 to R91). -/
theorem State.sweepTable_turn (s : State) :
    LanesTurn s.tableAged (fun l => s.tableAged.failsOver l = true) (fun l => s.tableAged.returns l = true) s.sweepTable := by
  rw [State.sweepTable_eq]
  exact ((LanesTurn.refl s.tableAged).removals (s.sourcesWhere StreamEntry.sweptAway)).onSweepDone

/-- What a sweep makes of the entries (R66, table). -/
theorem State.tableAged_entry (s : State) (i : Fin 48) :
    (s.streams[i] = none → s.tableAged.streams[i] = none) ∧
      ∀ e : StreamEntry, s.streams[i] = some e → s.tableAged.streams[i] =
        if e.seen then some { e with seen := false, age := 0 }
        else if e.age < 3 then some { e with age := e.age + 1 } else none := by
  have entry : s.tableAged.streams[i] = (s.streams[i].filter fun x => !x.sweptAway).map StreamEntry.swept :=
    Vector.getElem_map _ _
  refine ⟨fun free => ?_, fun e found => ?_⟩
  · rw [entry, free]
    rfl
  · rw [entry, found]
    cases seen : e.seen with
    | true =>
      have stays : e.sweptAway = false := by rw [StreamEntry.sweptAway, seen]; rfl
      simp [Option.filter, stays, StreamEntry.swept, seen]
    | false =>
      by_cases young : e.age < 3
      · have stays : e.sweptAway = false := by
          rw [StreamEntry.sweptAway, decide_eq_false (Nat.not_le.mpr young), Bool.and_false]
        simp [Option.filter, stays, StreamEntry.swept, seen, young]
      · have leaves : e.sweptAway = true := by
          rw [StreamEntry.sweptAway, seen, decide_eq_true (Nat.not_lt.mp young)]
          rfl
        simp [Option.filter, leaves, young]

/-! ### The table at a tick (R65) -/

section
variable {s : State}

theorem State.tickTable_of_early (h : s.sweepCounter + 1 < s.settings.sweepInterval) :
    s.tickTable = { s with sweepCounter := s.sweepCounter + 1, sweepReached := false } := by
  rw [State.tickTable, decide_eq_false (Nat.not_le.mpr h)]
  rfl

theorem State.tickTable_of_due (h : s.settings.sweepInterval ≤ s.sweepCounter + 1) :
    s.tickTable = ({ s with sweepCounter := s.sweepCounter + 1, sweepReached := true } : State).sweepTable := by
  rw [State.tickTable, decide_eq_true h]
  rfl

theorem State.tickPath_frame (p : Feed) (s : State) : s.tickPath p = { s with
    lanes := (s.tickPath p).lanes, probe := (s.tickPath p).probe, notices := (s.tickPath p).notices
    carriage := (s.tickPath p).carriage, routes := (s.tickPath p).routes, regulators := (s.tickPath p).regulators
    paths := (s.tickPath p).paths, rasters := (s.tickPath p).rasters, outputs := (s.tickPath p).outputs
    written := (s.tickPath p).written } := by
  unfold State.tickPath
  split
  · rfl
  · dsimp only
    split
    · have ended := (s.takeMode p).endAtTick_frame p
      generalize (s.takeMode p).endAtTick p = a at ended
      generalize (s.takeMode p).paths[p].fallback = lines
      generalize hb : (a.setRaster p (some { start := s.now, period := s.tick.tickPeriod, lines := lines, next := 1
                                             begun := s.now })).beginGeneratedLine p 0 = b
      have started := b.feedFrameStart_frame p lines
      generalize b.feedFrameStart p lines = f at started
      rw [started, ← hb, ended]
      rfl
    · rw [State.cutLine_frame]
      rfl

/-- What the table and a tick at it are read from. -/
structure State.SameTable (s t : State) : Prop where
  streams : t.streams = s.streams
  count : t.tableCount = s.tableCount
  counter : t.sweepCounter = s.sweepCounter
  settings : t.settings = s.settings

theorem State.SameTable.other {t : State} (h : State.SameTable s t) {c : TickConsumer} (other : c ≠ .table) :
    State.SameTable s (c.act t) ∧ (c.act t).sweepReached = t.sweepReached := by
  obtain ⟨streams, count, counter, settings⟩ := h
  cases c with
  | table => exact absurd rfl other
  | probe =>
    have frame : t.probeTick = { t with probe := t.probeTick.probe, notices := t.probeTick.notices } :=
      State.eq_of_veilProbe fun d => State.probeTick_veil d t
    show State.SameTable s t.probeTick ∧ t.probeTick.sweepReached = t.sweepReached
    generalize t.probeTick = r at frame
    rw [frame]
    exact ⟨⟨streams, count, counter, settings⟩, rfl⟩
  | path p =>
    have frame := t.tickPath_frame p
    show State.SameTable s (t.tickPath p) ∧ (t.tickPath p).sweepReached = t.sweepReached
    generalize t.tickPath p = r at frame
    rw [frame]
    exact ⟨⟨streams, count, counter, settings⟩, rfl⟩

/-- The table behind the tick at it. -/
structure State.TableTicked (s t : State) : Prop where
  settled : t.sweepReached = false
  early : s.sweepCounter + 1 < s.settings.sweepInterval →
    t.sweepCounter = s.sweepCounter + 1 ∧ t.streams = s.streams ∧ t.tableCount = s.tableCount
  due : s.settings.sweepInterval ≤ s.sweepCounter + 1 → t.sweepCounter = 0 ∧ t.streams = s.tableAged.streams

theorem State.tableAged_streams_congr {t : State} (h : t.streams = s.streams) : t.tableAged.streams = s.tableAged.streams := by
  simp only [State.tableAged, h]

theorem State.SameTable.ticked {t : State} (h : State.SameTable s t) : State.TableTicked s t.tickTable := by
  obtain ⟨streams, count, counter, settings⟩ := h
  by_cases early : s.sweepCounter + 1 < s.settings.sweepInterval
  · have same : t.sweepCounter + 1 < t.settings.sweepInterval := by rw [counter, settings]; exact early
    rw [State.tickTable_of_early same]
    exact ⟨rfl, fun _ => ⟨by rw [← counter], streams, count⟩, fun due => absurd early (Nat.not_lt.mpr due)⟩
  · have same : t.settings.sweepInterval ≤ t.sweepCounter + 1 := by
      rw [counter, settings]
      exact Nat.not_lt.mp early
    rw [State.tickTable_of_due same]
    generalize hc : ({ t with sweepCounter := t.sweepCounter + 1, sweepReached := true } : State) = c
    have frame := c.sweepTable_turn.eq
    have table : c.streams = s.streams := by rw [← hc]; exact streams
    generalize c.sweepTable = r at frame
    rw [frame]
    exact ⟨rfl, fun h => absurd h early, fun _ => ⟨rfl, State.tableAged_streams_congr table⟩⟩

theorem State.TableTicked.other {t : State} (h : State.TableTicked s t) {c : TickConsumer} (other : c ≠ .table) :
    State.TableTicked s (c.act t) := by
  obtain ⟨settled, early, due⟩ := h
  obtain ⟨⟨streams, count, counter, -⟩, reached⟩ :=
    State.SameTable.other (s := t) ⟨rfl, rfl, rfl, rfl⟩ other
  exact ⟨reached.trans settled, fun h => by rw [streams, count, counter]; exact early h,
    fun h => by rw [streams, counter]; exact due h⟩

end

/-- Settles O22: the tick at the table by the order's one turn of it, the sweep by `State.sweepTable_turn`. -/
theorem sweepAgesAndRemoves : Obligations.SweepAgesAndRemoves := by
  unfold Obligations.SweepAgesAndRemoves
  refine ⟨fun c s dt ticks => ?_, fun s => ⟨State.tickTable_of_early, fun due => ?_⟩, fun s => ⟨fun reached => ?_, fun none => ?_⟩⟩
  · obtain ⟨v, executed, begins, -, -⟩ := exec_ticks ticks
    have counted := v.tickCounted_frame
    have same : State.SameTable s v.tickCounted := by
      generalize v.tickCounted = u at counted
      rw [counted, begins]
      exact ⟨rfl, rfl, rfl, rfl⟩
    have ticked : State.TableTicked s v.houseTick :=
      forList_turn (State.SameTable s) (State.TableTicked s) TickConsumer.act (v.tickOrder_mem .table) v.tickOrder_nodup same
        (fun d t other h => (h.other other).1) (fun t h => h.ticked) fun d t other h => h.other other
    obtain ⟨settled, early, due⟩ := ticked
    refine ⟨v.houseTick, executed, settled, early, fun h => ?_⟩
    obtain ⟨counter, streams⟩ := due h
    rw [streams]
    exact ⟨counter, s.tableAged_entry⟩
  · exact congrArg Host.Outcome.next (State.tickTable_of_due due).symm
  · have sweeps : s.settleSweep = s.sweepTable := if_pos reached
    have turn := s.sweepTable_turn
    have frame := turn.eq
    have count := State.sourcesWhere_length StreamEntry.sweptAway s
    have executed : exec .sweep s = .next s.sweepTable := congrArg Host.Outcome.next sweeps
    generalize s.sweepTable = t at executed turn frame
    have table := turn.streams
    have records : ∀ n, s.tableAged.notice n = s.notice n := fun n => rfl
    refine ⟨t, executed, ?_, ?_, ?_, fun l => s.tableAged.failsOver l = true, fun l => s.tableAged.returns l = true,
      fun l => ?_, fun l => ?_, fun l => ⟨fun fails => ?_, turn.returned l, turn.stood l⟩, fun n other => turn.quiet n other, ?_⟩
    · rw [frame]
      rfl
    · rw [table]
      exact s.tableAged_entry
    · rw [frame]
      exact congrArg (s.tableCount - ·) count
    · rw [State.hasSource_congr table, State.hasSource_congr table]
      exact s.tableAged.failsOver_iff l
    · rw [State.hasSource_congr table, State.hasSource_congr table]
      exact s.tableAged.returns_iff l
    · exact turn.failed l fails
    · exact turn.window.of_probe rfl rfl
  · exact congrArg Host.Outcome.next (if_neg (ne_true_of_eq_false none))

end Sys2Proof.Machine
end

section
/-! SUPPORT. The house tick at a path (R33, R37, R39): in LOST or RECOVERED the requested mode comes into force, and a generated
frame begins or the output is dark. -/

namespace Sys2Proof.Machine

/-! ### What a tick ends -/

/-- The words written of what a tick ends on output `p`, from what the output does, the raster of its path and the words it
had written (R33; assumption 28). -/
def tickWords (p : Feed) (now : Nat) (o : Output) (r : Option GenFrame) (written : List FeedWord) : List FeedWord :=
  match o, r with
  | .dark, _ => written
  | .blackRun ws, _ => ws ++ List.replicate (Config.blackWords p now) blackWord
  | .line l, none => l.words (Config.blackWords p now)
  | .line l, some g =>
    if g.next < g.lines then (l.words (Config.blackWords p now)).take (Config.wordsWritten p now)
    else l.words (Config.blackWords p now)

def State.wordsAtTick (p : Feed) (s : State) : List FeedWord :=
  tickWords p s.now s.outputs[p] s.rasters[p] s.written[p]

section
variable {p : Feed} {s : State}

theorem State.endLine_of_dark (dark : s.outputs[p] = .dark) : s.endLine p = s := by simp only [State.endLine, dark]

theorem State.cutLine_of_dark (dark : s.outputs[p] = .dark) : s.cutLine p = s := by simp only [State.cutLine, dark]

theorem State.endLine_of_line {l : Line} (line : s.outputs[p] = .line l) :
    s.endLine p = s.setWritten p (l.words (Config.blackWords p s.now)) := by
  simp only [State.endLine, line, Output.words]

theorem State.endLine_of_blackRun {ws : List FeedWord} (run : s.outputs[p] = .blackRun ws) :
    s.endLine p = s.setWritten p (ws ++ List.replicate (Config.blackWords p s.now) blackWord) := by
  simp only [State.endLine, run, Output.words]

theorem State.cutLine_of_line {l : Line} (line : s.outputs[p] = .line l) :
    s.cutLine p = s.setWritten p ((l.words (Config.blackWords p s.now)).take (Config.wordsWritten p s.now)) := by
  simp only [State.cutLine, line]

theorem State.cutLine_of_blackRun {ws : List FeedWord} (run : s.outputs[p] = .blackRun ws) : s.cutLine p = s.endLine p := by
  simp only [State.cutLine, run]

/-- A tick ends what an output is doing in one of two ways (R33; assumption 28). -/
theorem State.endAtTick_cases (p : Feed) (s : State) :
    (∃ g, s.rasters[p] = some g ∧ g.next < g.lines ∧ s.endAtTick p = s.cutLine p) ∨
      ((∀ g, s.rasters[p] = some g → ¬g.next < g.lines) ∧ s.endAtTick p = s.endLine p) := by
  unfold State.endAtTick
  cases s.rasters[p] with
  | none => exact .inr ⟨nofun, rfl⟩
  | some g =>
    by_cases more : g.next < g.lines
    · exact .inl ⟨g, rfl, more, if_pos more⟩
    · exact .inr ⟨fun g' same => by rwa [← Option.some.inj same], if_neg more⟩

theorem State.endAtTick_eq (p : Feed) (s : State) :
    s.endAtTick p = { s with written := s.written.set p (s.wordsAtTick p) } := by
  have dark_stands : s = { s with written := s.written.set p s.written[p] } := by rw [Vector.set_own s.written p rfl]
  unfold State.wordsAtTick tickWords
  rcases s.endAtTick_cases p with ⟨g, raster, more, cuts⟩ | ⟨complete, ends⟩
  · rw [cuts, raster]
    cases output : s.outputs[p] with
    | dark => exact (State.cutLine_of_dark output).trans dark_stands
    | blackRun ws => exact (State.cutLine_of_blackRun output).trans (State.endLine_of_blackRun output)
    | line l =>
      dsimp only
      rw [State.cutLine_of_line output, if_pos more]
      rfl
  · rw [ends]
    cases output : s.outputs[p] with
    | dark => exact (State.endLine_of_dark output).trans dark_stands
    | blackRun ws => exact State.endLine_of_blackRun output
    | line l =>
      rw [State.endLine_of_line output]
      cases raster : s.rasters[p] with
      | none => rfl
      | some g =>
        dsimp only
        rw [if_neg (complete g raster)]
        rfl

/-! ### The three ways of a tick at a path -/

/-- The state in which line 0 of a generated frame begins at a tick, before the four blocks act (R31, R33, R37). -/
def State.generatedFrameBegun (p : Feed) (s : State) : State :=
  { s with
    paths := s.paths.set p { s.paths[p] with inForce := s.paths[p].requested }
    rasters := s.rasters.set p (some
      { start := s.now, period := s.tick.tickPeriod, lines := s.paths[p].fallback, next := 1, begun := s.now })
    written := s.written.set p (s.wordsAtTick p)
    outputs := s.outputs.set p (.line (newLine 0 s.paths[p].room true true)) }

theorem State.tickPath_of_follow (h : s.paths[p].timing = .follow) : s.tickPath p = s := by
  simp only [State.tickPath, h]

theorem State.takeMode_path (p : Feed) (s : State) :
    (s.takeMode p).paths[p] = { s.paths[p] with inForce := s.paths[p].requested } := State.setPath_same _ _ _

theorem State.tickPath_of_normal (h : s.paths[p].timing ≠ .follow) (normal : s.paths[p].requested = .normal) :
    s.tickPath p = (s.generatedFrameBegun p).feedFrameStart p s.paths[p].fallback := by
  have path := s.takeMode_path p
  have inForce : (s.takeMode p).paths[p].inForce = .normal := by rw [path]; exact normal
  have begun : (((s.takeMode p).endAtTick p).setRaster p (some
      { start := s.now, period := s.tick.tickPeriod, lines := s.paths[p].fallback, next := 1
        begun := s.now })).beginGeneratedLine p 0 = s.generatedFrameBegun p := by
    have room : ((s.takeMode p).endAtTick p).paths[p].room = s.paths[p].room := by
      rw [State.endAtTick_eq]
      show (s.takeMode p).paths[p].room = _
      rw [path]
    unfold State.beginGeneratedLine
    rw [State.setRaster_paths, room, State.endAtTick_eq]
    rfl
  have fallback : (s.takeMode p).paths[p].fallback = s.paths[p].fallback := by rw [path]
  unfold State.tickPath
  split
  next follow => exact absurd follow h
  next =>
    dsimp only
    rw [inForce]
    dsimp only
    rw [fallback, begun]

theorem State.tickPath_of_bypass (h : s.paths[p].timing ≠ .follow) (bypass : s.paths[p].requested = .bypass) :
    s.tickPath p = { s with
      paths := s.paths.set p { s.paths[p] with inForce := .bypass }
      rasters := s.rasters.set p none
      outputs := s.outputs.set p .dark
      written := (s.cutLine p).written } := by
  have inForce : (s.takeMode p).paths[p].inForce = .bypass := by rw [s.takeMode_path p]; exact bypass
  have cut : (((s.takeMode p).setRaster p none).cutLine p).written = (s.cutLine p).written := by
    cases output : s.outputs[p] with
    | dark =>
      rw [State.cutLine_of_dark output, State.cutLine_of_dark (s := (s.takeMode p).setRaster p none) output]
      rfl
    | blackRun ws =>
      rw [State.cutLine_of_blackRun output, State.cutLine_of_blackRun (s := (s.takeMode p).setRaster p none) output,
        State.endLine_of_blackRun output, State.endLine_of_blackRun (s := (s.takeMode p).setRaster p none) output]
      rfl
    | line l =>
      rw [State.cutLine_of_line output, State.cutLine_of_line (s := (s.takeMode p).setRaster p none) output]
      rfl
  unfold State.tickPath
  split
  next follow => exact absurd follow h
  next =>
    dsimp only
    rw [inForce]
    dsimp only
    rw [State.cutLine_frame, cut, ← bypass]
    rfl

end

end Sys2Proof.Machine
end

section
/-! SUPPORT. Every tick at one path, whatever order its consumers take (R31, R33, R37, R39): what the path's own turn reads, and
what it leaves, no other consumer touches. -/

namespace Sys2Proof.Machine

/-- What a tick at path `p` reads and writes by itself stands in `t` as it stands in `s`. -/
structure State.SamePath (p : Feed) (s t : State) : Prop where
  now : t.now = s.now
  tick : t.tick = s.tick
  path : t.paths[p] = s.paths[p]
  raster : t.rasters[p] = s.rasters[p]
  output : t.outputs[p] = s.outputs[p]
  written : t.written[p] = s.written[p]
  carriage : t.carriage[p] = s.carriage[p]
  route : t.routes[p] = s.routes[p]
  shortfall : t.notice (.carriageShortfall p) = s.notice (.carriageShortfall p)

/-- What a tick makes of path `p` and of the blocks of its feed, from `s` to `t` (R31, R33, R37). -/
structure State.PathTicked (p : Feed) (s t : State) : Prop where
  follow : s.paths[p].timing = .follow → t.paths[p] = s.paths[p] ∧ t.rasters[p] = s.rasters[p] ∧
    t.outputs[p] = s.outputs[p] ∧ t.written[p] = s.written[p] ∧ t.carriage[p] = s.carriage[p] ∧ t.routes[p] = s.routes[p] ∧
    t.notice (.carriageShortfall p) = s.notice (.carriageShortfall p)
  mode : s.paths[p].timing ≠ .follow → t.paths[p] = { s.paths[p] with inForce := s.paths[p].requested }
  normal : s.paths[p].timing ≠ .follow → s.paths[p].requested = .normal →
    t.rasters[p] = some
      { start := s.now, period := s.tick.tickPeriod, lines := s.paths[p].fallback, next := 1, begun := s.now } ∧
    t.outputs[p] = .line (newLine 0 s.paths[p].room true true) ∧ t.written[p] = s.wordsAtTick p ∧
    t.carriage[p] = s.carriage[p].frameStart s.paths[p].fn s.paths[p].fd s.paths[p].quiet s.paths[p].fallback ∧
    t.notice (.carriageShortfall p) = (s.carriageFrameStart p s.paths[p].fallback).notice (.carriageShortfall p) ∧
    t.routes[p] = (if s.routes[p].swapPending then s.routes[p].swapped else s.routes[p]).shifted
  bypass : s.paths[p].timing ≠ .follow → s.paths[p].requested = .bypass →
    t.rasters[p] = none ∧ t.outputs[p] = .dark ∧ t.carriage[p] = s.carriage[p] ∧ t.routes[p] = s.routes[p] ∧
    t.notice (.carriageShortfall p) = s.notice (.carriageShortfall p)

section
variable {p : Feed} {s t u : State}

theorem State.SamePath.refl (p : Feed) (s : State) : State.SamePath p s s := ⟨rfl, rfl, rfl, rfl, rfl, rfl, rfl, rfl, rfl⟩

theorem State.SamePath.trans (h : State.SamePath p s t) (h' : State.SamePath p t u) : State.SamePath p s u :=
  ⟨h'.now.trans h.now, h'.tick.trans h.tick, h'.path.trans h.path, h'.raster.trans h.raster, h'.output.trans h.output,
    h'.written.trans h.written, h'.carriage.trans h.carriage, h'.route.trans h.route, h'.shortfall.trans h.shortfall⟩

/-- What a tick left of a path is left of it in every state that agrees on the path. -/
theorem State.PathTicked.of_same (h : State.PathTicked p s t) (same : State.SamePath p t u) : State.PathTicked p s u := by
  obtain ⟨follow, mode, normal, bypass⟩ := h
  obtain ⟨-, -, path, raster, output, written, carriage, route, shortfall⟩ := same
  constructor
  · rw [path, raster, output, written, carriage, route, shortfall]
    exact follow
  · rw [path]
    exact mode
  · rw [raster, output, written, carriage, route, shortfall]
    exact normal
  · rw [raster, output, carriage, route, shortfall]
    exact bypass

/-- What a tick makes of a path is read from what the path stands at. -/
theorem State.PathTicked.from_same (same : State.SamePath p s t) (h : State.PathTicked p t u) : State.PathTicked p s u := by
  obtain ⟨follow, mode, normal, bypass⟩ := h
  obtain ⟨now, tick, path, raster, output, written, carriage, route, shortfall⟩ := same
  have words : t.wordsAtTick p = s.wordsAtTick p := by
    rw [State.wordsAtTick, State.wordsAtTick, now, raster, output, written]
  rw [path, raster, output, written, carriage, route, shortfall] at follow
  rw [path] at mode
  rw [State.carriageFrameStart_notice_shortfall, path, now, tick, carriage, route, shortfall, words,
    ← State.carriageFrameStart_notice_shortfall p s.paths[p].fallback s] at normal
  rw [path, carriage, route, shortfall] at bypass
  exact ⟨follow, mode, normal, bypass⟩

theorem State.generatedFrameBegun_path (p : Feed) (s : State) :
    (s.generatedFrameBegun p).paths[p] = { s.paths[p] with inForce := s.paths[p].requested } := vector_set_same _ _ _

theorem State.tickPath_ticked (p : Feed) (s : State) : State.PathTicked p s (s.tickPath p) := by
  refine ⟨fun follow => ?_, fun generated => ?_, fun generated normal => ?_, fun generated bypass => ?_⟩
  · rw [State.tickPath_of_follow follow]
    exact ⟨rfl, rfl, rfl, rfl, rfl, rfl, rfl⟩
  · cases mode : s.paths[p].requested with
    | normal =>
      rw [State.tickPath_of_normal generated mode]
      have frame := (s.generatedFrameBegun p).feedFrameStart_frame p s.paths[p].fallback
      generalize (s.generatedFrameBegun p).feedFrameStart p s.paths[p].fallback = f at frame
      rw [frame]
      refine (s.generatedFrameBegun_path p).trans ?_
      rw [mode]
    | bypass =>
      rw [State.tickPath_of_bypass generated mode]
      exact vector_set_same _ _ _
  · rw [State.tickPath_of_normal generated normal]
    have path := s.generatedFrameBegun_path p
    have carriage := State.feedFrameStart_carriage_same p s.paths[p].fallback (s.generatedFrameBegun p)
    have route := State.feedFrameStart_route_same p s.paths[p].fallback (s.generatedFrameBegun p)
    have shortfall := State.feedFrameStart_notice_shortfall p s.paths[p].fallback (s.generatedFrameBegun p)
    have frame := (s.generatedFrameBegun p).feedFrameStart_frame p s.paths[p].fallback
    rw [path] at carriage
    rw [State.carriageFrameStart_notice_shortfall]
    generalize (s.generatedFrameBegun p).feedFrameStart p s.paths[p].fallback = f at frame carriage route shortfall
    refine ⟨?_, ?_, ?_, carriage, shortfall, route⟩
    · rw [frame]
      exact vector_set_same _ _ _
    · rw [frame]
      exact vector_set_same _ _ _
    · rw [frame]
      exact vector_set_same _ _ _
  · rw [State.tickPath_of_bypass generated bypass]
    exact ⟨vector_set_same _ _ _, vector_set_same _ _ _, rfl, rfl, rfl⟩

/-- A tick at another path leaves this one alone. -/
theorem State.tickPath_samePath {q : Feed} (h : p ≠ q) (s : State) : State.SamePath p s (s.tickPath q) := by
  by_cases follow : s.paths[q].timing = .follow
  · rw [State.tickPath_of_follow follow]
    exact .refl p s
  · cases mode : s.paths[q].requested with
    | normal =>
      rw [State.tickPath_of_normal follow mode]
      have carriage := State.feedFrameStart_carriage_other q s.paths[q].fallback (s.generatedFrameBegun q) h
      have route := State.feedFrameStart_route_other q s.paths[q].fallback (s.generatedFrameBegun q) h
      have shortfall := State.feedFrameStart_notice_other q s.paths[q].fallback (s.generatedFrameBegun q)
        (n := .carriageShortfall p) (fun e => h (Notice.carriageShortfall.inj e)) (by nofun)
      have frame := (s.generatedFrameBegun q).feedFrameStart_frame q s.paths[q].fallback
      generalize (s.generatedFrameBegun q).feedFrameStart q s.paths[q].fallback = f at frame carriage route shortfall
      refine ⟨?_, ?_, ?_, ?_, ?_, ?_, carriage, route, shortfall⟩
      all_goals rw [frame]
      · rfl
      · rfl
      · exact vector_set_other _ _ h
      · exact vector_set_other _ _ h
      · exact vector_set_other _ _ h
      · exact vector_set_other _ _ h
    | bypass =>
      rw [State.tickPath_of_bypass follow mode]
      exact ⟨rfl, rfl, vector_set_other _ _ h, vector_set_other _ _ h, vector_set_other _ _ h,
        State.cutLine_written_other h s, rfl, rfl, rfl⟩

theorem State.tickTable_frame (s : State) : s.tickTable = { s with
    lanes := s.tickTable.lanes, probe := s.tickTable.probe, notices := s.tickTable.notices, streams := s.tickTable.streams
    tableCount := s.tickTable.tableCount, sweepCounter := s.tickTable.sweepCounter
    sweepReached := s.tickTable.sweepReached, freeCount := s.tickTable.freeCount } :=
  State.eq_of_veilTable fun d => State.tickTable_veil d s

theorem State.probeTick_frame (s : State) :
    s.probeTick = { s with probe := s.probeTick.probe, notices := s.probeTick.notices } :=
  State.eq_of_veilProbe fun d => State.probeTick_veil d s

theorem TickConsumer.act_samePath {c : TickConsumer} (h : c ≠ .path p) (s : State) : State.SamePath p s (c.act s) := by
  cases c with
  | table =>
    have frame := s.tickTable_frame
    have shortfall : s.tickTable.notice (.carriageShortfall p) = s.notice (.carriageShortfall p) :=
      State.tickTable_notice_other (by nofun) s
    show State.SamePath p s s.tickTable
    generalize s.tickTable = r at frame shortfall
    refine ⟨?_, ?_, ?_, ?_, ?_, ?_, ?_, ?_, shortfall⟩
    all_goals rw [frame]
  | probe =>
    have frame := s.probeTick_frame
    have shortfall := State.notice_congr s.probeTick_notices (.carriageShortfall p)
    show State.SamePath p s s.probeTick
    generalize s.probeTick = r at frame shortfall
    refine ⟨?_, ?_, ?_, ?_, ?_, ?_, ?_, ?_, shortfall⟩
    all_goals rw [frame]
  | path q => exact State.tickPath_samePath (fun e => h (by rw [e])) s

/-- Whatever order the consumers take, the tick makes of path `p` what its own turn makes of it (R39). -/
theorem forList_act_pathTicked (p : Feed) {order : List TickConsumer} (mem : .path p ∈ order) (distinct : order.Nodup)
    (s : State) : State.PathTicked p s (forList TickConsumer.act order s) :=
  forList_turn (State.SamePath p s) (State.PathTicked p s) TickConsumer.act mem distinct (.refl p s)
    (fun _ t other same => same.trans (TickConsumer.act_samePath other t))
    (fun t same => .from_same same (t.tickPath_ticked p))
    fun _ t other ticked => ticked.of_same (TickConsumer.act_samePath other t)

end

end Sys2Proof.Machine
end

section
/-! SUPPORT. Every tick at the lanes and at the probe, whatever order its consumers take (R114, R144, R145). -/

namespace Sys2Proof.Machine

/-! ### The probe through a tick -/

section
variable {s t : State} {A : LaneId → Prop}

theorem WindowFollows.results (h : WindowFollows s t A) : t.probe.results = s.probe.results := by
  obtain ⟨openWindow, quiet⟩ := h
  by_cases window : ∃ l f w, s.probe.run = .measuring l f w
  · obtain ⟨l, f, w, run⟩ := window
    obtain ⟨left, stays⟩ := openWindow l f w run
    by_cases gone : A l
    · rw [left gone]
    · rw [stays gone]
  · rw [quiet fun l f w run => window ⟨l, f, w, run⟩]

/-- No event of a lane moves a probe that has no window open (R146). -/
theorem WindowFollows.probe_of_noWindow (h : WindowFollows s t A) (noWindow : ∀ l f w, s.probe.run ≠ .measuring l f w) :
    t.probe = s.probe := h.2 noWindow

theorem State.tickTable_window (s : State) : ∃ A, WindowFollows s s.tickTable A := by
  by_cases early : s.sweepCounter + 1 < s.settings.sweepInterval
  · rw [State.tickTable_of_early early]
    exact ⟨_, (WindowFollows.refl s).of_probe rfl rfl⟩
  · rw [State.tickTable_of_due (Nat.not_lt.mp early)]
    exact ⟨_, (State.sweepTable_turn _).window.of_probe rfl rfl⟩

theorem State.probeTick_of_awaitTick {l : LaneId} (h : s.probe.run = .awaitTick l) :
    s.probeTick = { s with probe := { s.probe with run := .awaitFrame l } } := by
  unfold State.probeTick
  rw [h]
  rfl

theorem State.probeTick_of_other (h : ∀ l : LaneId, s.probe.run ≠ .awaitTick l) : s.probeTick = s := by
  unfold State.probeTick
  split
  next l run => exact absurd run (h l)
  · rfl

theorem State.probeTick_results (s : State) : s.probeTick.probe.results = s.probe.results := by
  unfold State.probeTick
  split <;> rfl

end

/-! ### The modes of the paths through a tick (R37) -/

/-- The timing state and the requested mode of every path stand. -/
structure State.SameModes (s t : State) : Prop where
  timing : ∀ q : Feed, t.paths[q].timing = s.paths[q].timing
  requested : ∀ q : Feed, t.paths[q].requested = s.paths[q].requested

theorem State.SameModes.refl (s : State) : State.SameModes s s := ⟨fun _ => rfl, fun _ => rfl⟩

section
variable {s t u : State}

theorem State.SameModes.trans (h : State.SameModes s t) (h' : State.SameModes t u) : State.SameModes s u :=
  ⟨fun q => (h'.timing q).trans (h.timing q), fun q => (h'.requested q).trans (h.requested q)⟩

theorem State.SameModes.of_paths (h : t.paths = s.paths) : State.SameModes s t :=
  ⟨fun q => by rw [h], fun q => by rw [h]⟩

theorem TickConsumer.act_sameModes (c : TickConsumer) (s : State) : State.SameModes s (c.act s) := by
  cases c with
  | table =>
    have frame := s.tickTable_frame
    show State.SameModes s s.tickTable
    generalize s.tickTable = r at frame
    exact .of_paths (by rw [frame])
  | probe =>
    have frame := s.probeTick_frame
    show State.SameModes s s.probeTick
    generalize s.probeTick = r at frame
    exact .of_paths (by rw [frame])
  | path p =>
    have ticked := s.tickPath_ticked p
    have other : ∀ q, q ≠ p → (s.tickPath p).paths[q] = s.paths[q] := fun q h => (State.tickPath_samePath h s).path
    show State.SameModes s (s.tickPath p)
    generalize s.tickPath p = r at ticked other
    have own : r.paths[p].timing = s.paths[p].timing ∧ r.paths[p].requested = s.paths[p].requested := by
      by_cases follow : s.paths[p].timing = .follow
      · rw [(ticked.follow follow).1]
        exact ⟨rfl, rfl⟩
      · rw [ticked.mode follow]
        exact ⟨rfl, rfl⟩
    refine ⟨fun q => ?_, fun q => ?_⟩
    · by_cases same : q = p
      · rw [same]
        exact own.1
      · rw [other q same]
    · by_cases same : q = p
      · rw [same]
        exact own.2
      · rw [other q same]

end

/-! ### The lanes through a tick that does not sweep (R114) -/

/-- The tick at a consumer, when the table does not sweep. -/
def TickConsumer.actEarly (c : TickConsumer) (s : State) : State :=
  match c with
  | .table => { s with sweepCounter := s.sweepCounter + 1, sweepReached := false }
  | .probe => TickConsumer.probe.act s
  | .path p => (TickConsumer.path p).act s

theorem TickConsumer.actEarly_eq {c : TickConsumer} (h : c ≠ .table) (s : State) : c.actEarly s = c.act s := by
  cases c with
  | table => exact absurd rfl h
  | probe => rfl
  | path p => rfl

/-- The table takes its turn once, so a tick that does not bring it to the sweep interval sweeps nothing. -/
theorem forList_act_early {order : List TickConsumer} (distinct : order.Nodup) {s : State}
    (early : .table ∈ order → s.sweepCounter + 1 < s.settings.sweepInterval) :
    forList TickConsumer.act order s = forList TickConsumer.actEarly order s := by
  induction order generalizing s with
  | nil => rfl
  | cons c rest ih =>
    obtain ⟨once, distinct'⟩ := List.nodup_cons.mp distinct
    rw [forList_cons, forList_cons]
    by_cases table : c = .table
    · subst table
      have turn : TickConsumer.table.act s = TickConsumer.table.actEarly s :=
        State.tickTable_of_early (early List.mem_cons_self)
      rw [turn]
      exact ih distinct' fun mem => absurd mem once
    · rw [TickConsumer.actEarly_eq table]
      refine ih distinct' fun mem => ?_
      obtain ⟨⟨-, -, counter, settings⟩, -⟩ := State.SameTable.other (s := s) (t := s) ⟨rfl, rfl, rfl, rfl⟩ table
      rw [counter, settings]
      exact early (List.mem_cons_of_mem _ mem)

section
variable {l : LaneId} {s t : State}

theorem State.tickPath_lane (p : Feed) (l : LaneId) (s : State) :
    (s.paths[p].timing ≠ .follow → s.paths[p].requested = .normal → s.lanes[l].drain = p →
      (s.tickPath p).lanes[l] = s.lanes[l].corrected ∧
      (s.tickPath p).regulators[l] = s.regulators[l].captured s.lanes[l]) ∧
    (s.lanes[l].drain ≠ p ∨ s.paths[p].timing = .follow ∨ s.paths[p].requested = .bypass →
      (s.tickPath p).lanes[l] = s.lanes[l] ∧ (s.tickPath p).regulators[l] = s.regulators[l]) := by
  by_cases follow : s.paths[p].timing = .follow
  · refine ⟨fun generated => absurd follow generated, fun _ => ?_⟩
    rw [State.tickPath_of_follow follow]
    exact ⟨rfl, rfl⟩
  · cases mode : s.paths[p].requested with
    | normal =>
      obtain ⟨lane, regulator⟩ := State.feedFrameStart_lane p s.paths[p].fallback (s.generatedFrameBegun p) l
      have sameLane : (s.generatedFrameBegun p).lanes = s.lanes := rfl
      have sameRegulator : (s.generatedFrameBegun p).regulators = s.regulators := rfl
      rw [State.tickPath_of_normal follow mode, lane, regulator, sameLane, sameRegulator]
      refine ⟨fun _ _ drain => ?_, fun still => ?_⟩
      · rw [if_pos drain, if_pos drain]
        exact ⟨rfl, rfl⟩
      · have other : s.lanes[l].drain ≠ p :=
          still.elim id fun h => h.elim (fun h => absurd h follow) fun h => nomatch h
        rw [if_neg other, if_neg other]
        exact ⟨rfl, rfl⟩
    | bypass =>
      refine ⟨nofun, fun _ => ?_⟩
      rw [State.tickPath_of_bypass follow mode]
      exact ⟨rfl, rfl⟩

/-- What a tick that does not sweep makes of lane `l` (R114). -/
structure State.LaneTicked (l : LaneId) (s t : State) : Prop where
  drain : t.lanes[l].drain = s.lanes[l].drain
  generated : s.paths[s.lanes[l].drain].timing ≠ .follow → s.paths[s.lanes[l].drain].requested = .normal →
    t.lanes[l] = s.lanes[l].corrected ∧ t.regulators[l] = s.regulators[l].captured s.lanes[l]
  still : s.paths[s.lanes[l].drain].timing = .follow ∨ s.paths[s.lanes[l].drain].requested = .bypass →
    t.lanes[l] = s.lanes[l] ∧ t.regulators[l] = s.regulators[l]

/-- A consumer other than the path that a lane drains to leaves the lane alone when it does not sweep. -/
theorem TickConsumer.actEarly_lane {c : TickConsumer} (h : c ≠ .path s.lanes[l].drain) :
    (c.actEarly s).lanes[l] = s.lanes[l] ∧ (c.actEarly s).regulators[l] = s.regulators[l] ∧
      State.SameModes s (c.actEarly s) := by
  cases c with
  | table => exact ⟨rfl, rfl, .of_paths rfl⟩
  | probe =>
    have frame := s.probeTick_frame
    show s.probeTick.lanes[l] = _ ∧ s.probeTick.regulators[l] = _ ∧ State.SameModes s s.probeTick
    generalize s.probeTick = r at frame
    rw [frame]
    exact ⟨rfl, rfl, .of_paths rfl⟩
  | path p =>
    obtain ⟨-, still⟩ := s.tickPath_lane p l
    obtain ⟨lane, regulator⟩ := still (.inl fun e => h (by rw [e]))
    exact ⟨lane, regulator, TickConsumer.act_sameModes (.path p) s⟩

theorem forList_act_laneTicked (l : LaneId) {order : List TickConsumer} (mem : .path s.lanes[l].drain ∈ order)
    (distinct : order.Nodup) (early : s.sweepCounter + 1 < s.settings.sweepInterval) :
    State.LaneTicked l s (forList TickConsumer.act order s) := by
  rw [forList_act_early distinct fun _ => early]
  refine forList_turn (fun t => t.lanes[l] = s.lanes[l] ∧ t.regulators[l] = s.regulators[l] ∧ State.SameModes s t)
    (State.LaneTicked l s) TickConsumer.actEarly mem distinct ⟨rfl, rfl, .refl s⟩ ?_ ?_ ?_
  · rintro c t other ⟨lane, regulator, modes⟩
    obtain ⟨lane', regulator', modes'⟩ := TickConsumer.actEarly_lane (l := l) (s := t) (by rw [lane]; exact other)
    exact ⟨lane'.trans lane, regulator'.trans regulator, modes.trans modes'⟩
  · rintro t ⟨lane, regulator, timing, requested⟩
    obtain ⟨generated, still⟩ := t.tickPath_lane s.lanes[l].drain l
    rw [timing, requested, lane, regulator] at generated still
    show State.LaneTicked l s (t.tickPath s.lanes[l].drain)
    refine ⟨?_, fun h normal => generated h normal rfl, fun h => still (.inr h)⟩
    by_cases follow : s.paths[s.lanes[l].drain].timing = .follow
    · rw [(still (.inr (.inl follow))).1]
    · cases mode : s.paths[s.lanes[l].drain].requested with
      | normal =>
        rw [(generated follow mode rfl).1]
        exact Lane.corrected_drain _
      | bypass => rw [(still (.inr (.inr mode))).1]
  · rintro c t other ⟨drain, generated, still⟩
    obtain ⟨lane, regulator, -⟩ := TickConsumer.actEarly_lane (l := l) (s := t) (c := c) (by rw [drain]; exact other)
    exact ⟨by rw [lane]; exact drain, by rw [lane, regulator]; exact generated, by rw [lane, regulator]; exact still⟩

end

/-! ### The probe and the regulators through a tick -/

section
variable {s : State}

/-- A tick at a path under which no frame is generated touches neither the probe nor the regulators nor a notice. -/
theorem State.tickPath_quiet {p : Feed} (h : s.paths[p].timing = .follow ∨ s.paths[p].requested = .bypass) :
    (s.tickPath p).probe = s.probe ∧ (s.tickPath p).regulators = s.regulators ∧ (s.tickPath p).notices = s.notices := by
  by_cases follow : s.paths[p].timing = .follow
  · rw [State.tickPath_of_follow follow]
    exact ⟨rfl, rfl, rfl⟩
  · rw [State.tickPath_of_bypass follow (h.resolve_left follow)]
    exact ⟨rfl, rfl, rfl⟩

/-- What no consumer touches while no frame is generated (R144, R145). -/
structure State.NoFrame (s t : State) : Prop where
  modes : State.SameModes s t
  regulators : t.regulators = s.regulators
  done : t.notice .probeDone = s.notice .probeDone
  results : t.probe.results = s.probe.results

theorem State.NoFrame.act {t : State} (idle : ∀ p : Feed, s.paths[p].timing = .follow ∨ s.paths[p].requested = .bypass)
    (h : State.NoFrame s t) (c : TickConsumer) : State.NoFrame s (c.act t) ∧
      (∀ l, t.probe.run = .awaitFrame l → (c.act t).probe.run = .awaitFrame l) ∧
      (c ≠ .probe → ∀ l, t.probe.run = .awaitTick l → (c.act t).probe.run = .awaitTick l) := by
  obtain ⟨modes, regulators, done, results⟩ := h
  have modes' := modes.trans (c.act_sameModes t)
  cases c with
  | table =>
    obtain ⟨A, window⟩ := t.tickTable_window
    have frame := t.tickTable_frame
    have record : t.tickTable.notice .probeDone = t.notice .probeDone := State.tickTable_notice_other (by nofun) t
    have same : (∀ l f w, t.probe.run ≠ .measuring l f w) → t.tickTable.probe = t.probe := window.probe_of_noWindow
    refine ⟨⟨modes', ?_, record.trans done, window.results.trans results⟩, fun l run => ?_, fun _ l run => ?_⟩
    · show t.tickTable.regulators = _
      generalize t.tickTable = r at frame
      rw [frame]
      exact regulators
    · exact (congrArg Probe.run (same fun _ _ _ => by rw [run]; nofun)).trans run
    · exact (congrArg Probe.run (same fun _ _ _ => by rw [run]; nofun)).trans run
  | probe =>
    have frame := t.probeTick_frame
    refine ⟨⟨modes', ?_, (State.notice_congr t.probeTick_notices _).trans done, t.probeTick_results.trans results⟩,
      fun l run => ?_, fun other => absurd rfl other⟩
    · show t.probeTick.regulators = _
      generalize t.probeTick = r at frame
      rw [frame]
      exact regulators
    · exact (congrArg (fun u : State => u.probe.run) (State.probeTick_of_other fun _ => by rw [run]; nofun)).trans run
  | path p =>
    obtain ⟨probe, still, notices⟩ := State.tickPath_quiet (s := t) (p := p) (by
      rw [modes.timing, modes.requested]
      exact idle p)
    refine ⟨⟨modes', still.trans regulators, (State.notice_congr notices _).trans done,
      (congrArg Probe.results probe).trans results⟩, fun l run => ?_, fun _ l run => ?_⟩
    · exact (congrArg Probe.run probe).trans run
    · exact (congrArg Probe.run probe).trans run

/-- A probe that is stopped stays as it is through a tick, whatever the paths do (R144, R145). -/
theorem TickConsumer.act_probeStopped (stopped : s.probe.run = .stopped) (c : TickConsumer) :
    (c.act s).probe = s.probe ∧ (c.act s).notice .probeDone = s.notice .probeDone := by
  cases c with
  | table =>
    obtain ⟨A, window⟩ := s.tickTable_window
    exact ⟨window.probe_of_noWindow (by rw [stopped]; nofun), State.tickTable_notice_other (by nofun) s⟩
  | probe =>
    have still : s.probeTick = s := State.probeTick_of_other (by rw [stopped]; nofun)
    exact ⟨congrArg State.probe still, State.notice_congr s.probeTick_notices _⟩
  | path p =>
    by_cases idle : s.paths[p].timing = .follow ∨ s.paths[p].requested = .bypass
    · obtain ⟨probe, -, notices⟩ := State.tickPath_quiet idle
      exact ⟨probe, State.notice_congr notices _⟩
    · obtain ⟨generated, other⟩ := not_or.mp idle
      have normal : s.paths[p].requested = .normal := by
        cases mode : s.paths[p].requested with
        | normal => rfl
        | bypass => exact absurd mode other
      have quiet : (s.generatedFrameBegun p).probeFrameStart p = s.generatedFrameBegun p :=
        State.probeFrameStart_of_idle (by show ∀ l f w, s.probe.run ≠ _; simp [stopped])
          (by show ∀ l, s.probe.run ≠ _; simp [stopped])
      show (s.tickPath p).probe = _ ∧ (s.tickPath p).notice .probeDone = _
      rw [State.tickPath_of_normal generated normal, State.feedFrameStart_probe, State.feedFrameStart_notice_probeDone, quiet]
      exact ⟨rfl, rfl⟩

end

end Sys2Proof.Machine
end

section
/-! SUPPORT. Every house tick, assembled from what it makes of a path, of a lane and of the probe (O23). -/

namespace Sys2Proof.Machine

/-- The state in which a tick reaches its consumers (R39). -/
theorem TickBegins.counted {s v : State} {dt : Nat} (h : TickBegins s dt v) :
    v.tickCounted = { s with
      now := s.now + dt, freeCount := v.tickCounted.freeCount, tick := v.tickCounted.tick, rules := v.tickCounted.rules
      beaconPending := v.tickCounted.beaconPending, notices := v.tickCounted.notices } := by
  have counted := v.tickCounted_frame
  generalize v.tickCounted = u at counted ⊢
  rw [counted, h.frame]

theorem TickBegins.counted_notice {s v : State} {dt : Nat} (h : TickBegins s dt v) {n : Notice} (lost : n ≠ .houseLost)
    (returned : n ≠ .houseReturned) (watch : ∀ p e, n ≠ .watchExpired p e) : v.tickCounted.notice n = s.notice n :=
  (v.tickCounted_notice_other watch).trans (h.quiet n lost returned)

section
variable {s u t : State} {order : List TickConsumer}

/-- The routes and the line of a generated frame, in the words of the statement (R31, R127, R138). -/
theorem State.PathTicked.frame {p : Feed} (h : State.PathTicked p s t) (generated : s.paths[p].timing ≠ .follow)
    (normal : s.paths[p].requested = .normal) :
    t.routes[p].live = (if s.routes[p].swapPending then s.routes[p].shadow else s.routes[p].live) ∧
      t.routes[p].shadow = s.routes[p].shadow ∧ t.routes[p].swapPending = false ∧
      t.routes[p].clips = s.routes[p].clips ∧ t.routes[p].seenLast = s.routes[p].seenThis ∧
      ∀ x : Slot, t.routes[p].seenThis[x] = false := by
  obtain ⟨-, -, -, -, -, route⟩ := h.normal generated normal
  rw [route]
  exact s.routes[p].frameStarted

/-- Without a generated frame no consumer touches what `State.NoFrame` names. -/
theorem forList_act_noFrame (idle : ∀ p : Feed, s.paths[p].timing = .follow ∨ s.paths[p].requested = .bypass)
    (order : List TickConsumer) : State.NoFrame s (forList TickConsumer.act order s) :=
  forList_keeps (State.NoFrame s) TickConsumer.act order s ⟨.refl s, rfl, rfl, rfl⟩ fun c _ _ h => (h.act idle c).1

/-- A probe that awaits a tick awaits a frame behind it, when no frame is generated (R144). -/
theorem forList_act_awaitFrame (idle : ∀ p : Feed, s.paths[p].timing = .follow ∨ s.paths[p].requested = .bypass)
    (mem : .probe ∈ order) (distinct : order.Nodup) {l : LaneId} (await : s.probe.run = .awaitTick l) :
    (forList TickConsumer.act order s).probe.run = .awaitFrame l := by
  have both : State.NoFrame s (forList TickConsumer.act order s) ∧
      (forList TickConsumer.act order s).probe.run = .awaitFrame l :=
    forList_turn (fun t => State.NoFrame s t ∧ t.probe.run = .awaitTick l)
      (fun t => State.NoFrame s t ∧ t.probe.run = .awaitFrame l) TickConsumer.act mem distinct
      ⟨⟨.refl s, rfl, rfl, rfl⟩, await⟩
      (fun c t other ⟨quiet, run⟩ =>
        have ⟨quiet', _, awaits⟩ := quiet.act idle c
        ⟨quiet', awaits other l run⟩)
      (fun t ⟨quiet, run⟩ => ⟨(quiet.act idle .probe).1,
        congrArg (fun u : State => u.probe.run) (State.probeTick_of_awaitTick run)⟩)
      fun c t _ ⟨quiet, run⟩ =>
        have ⟨quiet', waits, _⟩ := quiet.act idle c
        ⟨quiet', waits l run⟩
  exact both.2

theorem forList_act_probeStopped (stopped : s.probe.run = .stopped) (order : List TickConsumer) :
    (forList TickConsumer.act order s).probe = s.probe ∧
      (forList TickConsumer.act order s).notice .probeDone = s.notice .probeDone :=
  forList_keeps (fun t => t.probe = s.probe ∧ t.notice .probeDone = s.notice .probeDone) TickConsumer.act order s ⟨rfl, rfl⟩
    fun c _ t ⟨probe, done⟩ =>
      have ⟨probe', done'⟩ := TickConsumer.act_probeStopped (s := t) (by rw [probe]; exact stopped) c
      ⟨probe'.trans probe, done'.trans done⟩

end

/-- Settles O23: a tick by its order and what each consumer's turn makes of a path, a lane and the probe; then the probe's
turn and a path's turn by themselves. -/
theorem tickBeginsGeneratedFrames : Obligations.TickBeginsGeneratedFrames := by
  unfold Obligations.TickBeginsGeneratedFrames
  refine ⟨fun c s dt last ticks hlast => ?_, fun s => ⟨fun l => State.probeTick_of_awaitTick, State.probeTick_of_other⟩,
    fun s p last hlast => ⟨State.tickPath_of_follow, fun generated normal => ?_, fun generated bypass => ?_⟩⟩
  · obtain ⟨v, executed, begins⟩ := exec_ticks ticks
    have counted := begins.counted
    have records : ∀ n, n ≠ .houseLost → n ≠ .houseReturned → (∀ p e, n ≠ .watchExpired p e) →
        v.tickCounted.notice n = s.notice n := fun n lost returned watch => begins.counted_notice lost returned watch
    have tick : v.houseTick.tick = v.tickCounted.tick := by rw [v.houseTick_tick, v.tickCounted_frame]
    have mem := v.tickOrder_mem
    have distinct := v.tickOrder_nodup
    have perm := v.tickOrder_perm
    rw [v.houseTick_eq] at executed tick
    generalize v.tickCounted = u at executed counted records tick
    generalize v.tickOrder = order at executed mem distinct perm tick
    have now : u.now = s.now + dt := (congrArg State.now counted :)
    have paths : u.paths = s.paths := (congrArg State.paths counted :)
    have rasters : u.rasters = s.rasters := (congrArg State.rasters counted :)
    have outputs : u.outputs = s.outputs := (congrArg State.outputs counted :)
    have written : u.written = s.written := (congrArg State.written counted :)
    have carriage : u.carriage = s.carriage := (congrArg State.carriage counted :)
    have routes : u.routes = s.routes := (congrArg State.routes counted :)
    have lanes : u.lanes = s.lanes := (congrArg State.lanes counted :)
    have regulators : u.regulators = s.regulators := (congrArg State.regulators counted :)
    have probe : u.probe = s.probe := (congrArg State.probe counted :)
    have counter : u.sweepCounter = s.sweepCounter := (congrArg State.sweepCounter counted :)
    have settings : u.settings = s.settings := (congrArg State.settings counted :)
    have done : u.notice .probeDone = s.notice .probeDone := records _ (by nofun) (by nofun) (by nofun)
    refine ⟨_, u, order, executed, rfl, perm, counted, fun p => ?_, fun early l => ?_, fun idle => ?_, fun stopped => ?_⟩
    · have ticked := forList_act_pathTicked p (mem (.path p)) distinct u
      have frame := ticked.frame
      obtain ⟨follow, mode, normal, bypass⟩ := ticked
      have words : u.wordsAtTick p = last p := by
        rw [State.wordsAtTick, now, outputs, rasters, written]
        exact (hlast p).symm
      have shortfall : u.notice (.carriageShortfall p) = s.notice (.carriageShortfall p) :=
        records _ (by nofun) (by nofun) (by nofun)
      rw [paths, rasters, outputs, written, carriage, routes, shortfall] at follow
      rw [paths] at mode
      rw [paths, now, ← tick, words, carriage, State.carriageFrameStart_notice_shortfall, carriage, shortfall,
        ← State.carriageFrameStart_notice_shortfall p s.paths[p].fallback s] at normal
      rw [paths, carriage, routes, shortfall] at bypass
      rw [paths, routes] at frame
      refine ⟨follow, mode, fun generated requested => ?_, bypass⟩
      obtain ⟨raster, output, lastWords, cadence, record, -⟩ := normal generated requested
      exact ⟨raster, output, lastWords, cadence, record, frame generated requested⟩
    · obtain ⟨-, generated, still⟩ := forList_act_laneTicked l (mem _) distinct (s := u) (by rw [counter, settings]; exact early)
      simp only [paths, lanes, regulators] at generated still
      exact ⟨generated, still⟩
    · have idle' : ∀ p : Feed, u.paths[p].timing = .follow ∨ u.paths[p].requested = .bypass := by
        rw [paths]
        exact idle
      obtain ⟨-, regulators', done', results⟩ := forList_act_noFrame idle' order
      refine ⟨regulators'.trans regulators, done'.trans done, results.trans (congrArg Probe.results probe), fun l await => ?_⟩
      exact forList_act_awaitFrame idle' (mem .probe) distinct ((congrArg Probe.run probe).trans await)
    · obtain ⟨probe', done'⟩ := forList_act_probeStopped (s := u) ((congrArg Probe.run probe).trans stopped) order
      exact ⟨probe'.trans probe, done'.trans done⟩
  · have words : s.wordsAtTick p = last := hlast.symm
    have turn : (TickConsumer.path p).act s = _ := State.tickPath_of_normal generated normal
    rw [turn, State.generatedFrameBegun, words, normal]
    rfl
  · have turn : (TickConsumer.path p).act s = _ := State.tickPath_of_bypass generated bypass
    refine ⟨_, turn, rfl, rfl, rfl, rfl, fun dark => ?_, fun l line => ?_⟩
    · show (s.cutLine p).written = s.written
      rw [State.cutLine_of_dark dark]
    · show (s.cutLine p).written = _
      rw [State.cutLine_of_line line]
      rfl

end Sys2Proof.Machine
end

section
/-! SUPPORT. What executing commands leaves of the outputs and of the replies that wait (R134, R151, R161). -/

namespace Sys2Proof.Machine

/-! ### What executing commands leaves of the outputs -/

/-- A refused or answered command of a state whose outputs are `s`'s. -/
def Answer.KeepsOutputs (s : State) (a : Answer) : Prop := a.state.outputs = s.outputs

@[simp] theorem refuse_keepsOutputs (s : State) (code : OutcomeCode) : (refuse s code).KeepsOutputs s := rfl

@[simp] theorem found_keepsOutputs (s : State) (fields : List Nat) : (found s fields).KeepsOutputs s := rfl

theorem done_keepsOutputs {s t : State} (h : t.outputs = s.outputs) : (done t).KeepsOutputs s := h

theorem stored_keepsOutputs {s t : State} (h : t.outputs = s.outputs) (adjusted : Bool) (fields : List Nat) :
    (stored t adjusted fields).KeepsOutputs s := h

theorem State.emptyLane_outputs (l : LaneId) (a : Active) (x : LaneState) (s : State) :
    (s.emptyLane l a x).outputs = s.outputs := by
  rw [State.emptyLane_frame]
  rfl

/-- Every command but RESTART leaves the outputs (R161). -/
theorem State.perform_keepsOutputs (s : State) (op : Op) (h : op ≠ .restart) : (s.perform op).KeepsOutputs s := by
  cases op with
  | restart => exact absurd rfl h
  | readRule i => simp only [State.perform, State.readRule]; split <;> simp
  | readLane i => simp only [State.perform, State.readLane]; split <;> simp
  | readRouteShadow i => simp only [State.perform, State.readRouteShadow]; split <;> simp
  | readRouteLive i => simp only [State.perform, State.readRouteLive]; split <;> simp
  | readStream i => simp only [State.perform, State.readStream]; split <;> simp
  | readPath i => simp only [State.perform, State.readPath]; split <;> simp
  | readProbe i => simp only [State.perform, State.readProbe]; split <;> simp
  | readSettings i => simp only [State.perform, State.readSettings]; split <;> simp
  | readStatus cursor => simp only [State.perform, State.readStatus]; split <;> simp
  | writeRule i w =>
    simp only [State.perform, State.writeRule]
    split
    · simp
    · split
      · simp
      · exact stored_keepsOutputs rfl _ _
  | writeLane i w =>
    simp only [State.perform, State.writeLane]
    split
    · simp
    · split
      · simp
      · split
        · simp
        · exact stored_keepsOutputs (by rw [State.storeDescriptor_eq]; rfl) _ _
  | writeRouteShadow i w =>
    simp only [State.perform, State.writeRouteShadow]
    split
    · simp
    · split
      · simp
      · split
        · simp
        · split
          · simp
          · exact stored_keepsOutputs rfl _ _
  | writePath i w =>
    simp only [State.perform, State.writePath]
    split
    · simp
    · split
      · simp
      · refine stored_keepsOutputs ?_ _ _
        split <;> rfl
  | writeSettings i w =>
    simp only [State.perform, State.writeSettings]
    split
    · split
      · simp
      · exact stored_keepsOutputs rfl _ _
    · simp
  | swapRoutes feeds =>
    simp only [State.perform, State.swapRoutes]
    split
    · exact done_keepsOutputs (forEach_same State.outputs _ s fun p t => by split <;> rfl)
    · simp
  | copyLive feed =>
    simp only [State.perform, State.copyLive]
    split
    · simp
    · split
      · simp
      · exact done_keepsOutputs rfl
  | flushLane lane =>
    simp only [State.perform, State.flushLane]
    split
    · simp
    · split
      · exact done_keepsOutputs rfl
      · exact done_keepsOutputs (State.emptyLane_outputs _ _ _ s)
  | returnPrimary lane =>
    simp only [State.perform, State.returnPrimary]
    split
    · simp
    · split
      · exact done_keepsOutputs rfl
      · split
        · exact done_keepsOutputs (State.emptyLane_outputs _ _ _ s)
        · simp
  | resume feed =>
    simp only [State.perform, State.resumePath]
    split
    · simp
    · split
      · exact done_keepsOutputs rfl
      · simp
      · exact done_keepsOutputs rfl
  | clearStreams =>
    refine done_keepsOutputs ?_
    have frame := (s.removeWhere_turn fun _ => true).eq
    generalize s.removeWhere (fun _ => true) = r at frame
    rw [frame]
    rfl
  | clearNotice kind subject generation =>
    simp only [State.perform, State.clearNotice]
    split
    · simp
    · split
      · simp
      · split
        · exact done_keepsOutputs rfl
        · split
          · simp
          · split
            · simp
            · exact done_keepsOutputs rfl
  | probeStart mode first last trigger =>
    simp only [State.perform, State.startProbe]
    split
    · simp
    · exact done_keepsOutputs rfl
  | probeStop => exact done_keepsOutputs rfl

/-- What executing commands leaves of what a line is assembled from: the outputs stand and the replies that waited still
stand first, or a RESTART has cut every line. -/
def State.Executed (s t : State) : Prop :=
  (t.outputs = s.outputs ∧ s.replyQueue <+: t.replyQueue) ∨ ∀ q : Feed, t.outputs[q] = .dark

theorem State.Executed.refl (s : State) : State.Executed s s := .inl ⟨rfl, ⟨[], List.append_nil _⟩⟩

theorem State.Executed.trans {s t u : State} (first : State.Executed s t) (second : State.Executed t u) :
    State.Executed s u := by
  rcases second with ⟨outputs, replies⟩ | dark
  · rcases first with ⟨outputs', replies'⟩ | dark
    · exact .inl ⟨outputs.trans outputs', replies'.trans replies⟩
    · exact .inr fun q => by rw [outputs]; exact dark q
  · exact .inr dark

/-- The judgement of a command is a RESTART's, which cuts every line and drops what waits (R161), or leaves the outputs and
both queues. -/
theorem State.judge_cases (s : State) (c : Command) :
    ((∀ q : Feed, (s.judge c).state.outputs[q] = .dark) ∧ (s.judge c).state.commandQueue = []) ∨
      ((s.judge c).state.outputs = s.outputs ∧ (s.judge c).state.commandQueue = s.commandQueue ∧
        (s.judge c).state.replyQueue = s.replyQueue) := by
  unfold State.judge
  cases c.decode with
  | error code => exact .inr ⟨rfl, rfl, rfl⟩
  | ok op =>
    by_cases restart : op = .restart
    · subst restart
      exact .inl ⟨fun q => State.reset_output q, rfl⟩
    · obtain ⟨commands, replies, -⟩ := s.perform_keeps op restart
      exact .inr ⟨s.perform_keepsOutputs op restart, commands, replies⟩

theorem State.executeCommand_executed (c : Command) (s : State) : State.Executed s (s.executeCommand c) := by
  rcases s.judge_cases c with ⟨dark, -⟩ | ⟨outputs, -, replies⟩
  · exact .inr dark
  · refine .inl ⟨outputs, ?_⟩
    rw [State.executeCommand, replies]
    exact ⟨_, rfl⟩

theorem State.executeBroadcast_executed (c : Command) (s : State) : State.Executed s (s.executeBroadcast c) := by
  unfold State.executeBroadcast
  cases c.broadcastSwap? with
  | none => exact .refl s
  | some feeds =>
    have same : ((s.armSwaps feeds).outputs, (s.armSwaps feeds).replyQueue) = (s.outputs, s.replyQueue) :=
      forEach_same (fun t => (t.outputs, t.replyQueue)) _ s fun p t => by split <;> rfl
    obtain ⟨outputs, replies⟩ := Prod.mk.inj same
    exact .inl ⟨outputs, replies ▸ ⟨[], List.append_nil _⟩⟩

theorem State.executeHead_executed (s : State) : State.Executed s s.executeHead := by
  unfold State.executeHead
  split
  · exact .refl s
  next c rest _ =>
    split
    · exact State.executeBroadcast_executed c { s with commandQueue := rest }
    · split
      · exact State.executeCommand_executed c { s with commandQueue := rest }
      · exact .refl s

theorem State.executeHeads_executed (n : Nat) (s : State) : State.Executed s (s.executeHeads n) := by
  induction n generalizing s with
  | zero => exact .refl s
  | succ n ih => exact s.executeHead_executed.trans (ih s.executeHead)

theorem State.runQueue_executed (s : State) : State.Executed s s.runQueue := s.executeHeads_executed _

end Sys2Proof.Machine
end

section
/-! SUPPORT. The line in progress: what a placement does to it, when a step is made, and what every step leaves of the
outputs; with them, how the four steps of a line compose (R131). -/

namespace Sys2Proof.Machine

/-! ### Writing an output -/

section

variable {s : State} {p : Feed}

theorem State.setOutput_own {o : Output} (h : s.outputs[p] = o) : s.setOutput p o = s := by
  subst h
  exact congrArg (fun v => ({ s with outputs := v } : State)) (Vector.set_own _ _ rfl)

theorem State.setOutput_setOutput (o o' : Output) : (s.setOutput p o).setOutput p o' = s.setOutput p o' := by
  simp [State.setOutput]

/-! ### Placements on the line in progress -/

theorem State.updateLine_of_line {l : Line} (f : Line → Line) (h : s.outputs[p] = .line l) :
    s.updateLine p f = s.setOutput p (.line (f l)) := by
  rw [State.updateLine, h]

theorem State.place_of_line {l : Line} (k : Packet) (h : s.outputs[p] = .line l) :
    s.place p k = s.setOutput p (.line { l with placed := l.placed ++ [k] }) :=
  State.updateLine_of_line _ h

/-- Placements write one record: the line, with the packets behind those already placed (R131). -/
theorem State.place_setOutput (l : Line) (k : Packet) :
    (s.setOutput p (.line l)).place p k = s.setOutput p (.line { l with placed := l.placed ++ [k] }) := by
  rw [State.place_of_line k (State.setOutput_same s p _), State.setOutput_setOutput]

theorem forList_place (ks : List Packet) (l : Line) :
    forList (State.place p) ks (s.setOutput p (.line l)) =
      s.setOutput p (.line { l with placed := l.placed ++ ks }) := by
  induction ks generalizing l with
  | nil => rw [List.append_nil]; rfl
  | cons k ks ih =>
    rw [forList_cons, State.place_setOutput, ih]
    simp

/-! ### When a step is made -/

theorem State.makeStep_of_next {l : Line} {x : LineStep} (h : s.outputs[p] = .line l) (next : l.made = lineStepPlace x) :
    s.makeStep p x = makeLineStep x p { l with made := lineStepPlace x + 1 }
      (s.setOutput p (.line { l with made := lineStepPlace x + 1 })) := by
  rw [State.makeStep, h]
  exact if_pos next

theorem State.makeStep_of_other {l : Line} {x : LineStep} (h : s.outputs[p] = .line l) (other : l.made ≠ lineStepPlace x) :
    s.makeStep p x = s := by
  rw [State.makeStep, h]
  exact if_neg other

theorem State.makeStep_of_noLine {x : LineStep} (h : ∀ l, s.outputs[p] ≠ .line l) : s.makeStep p x = s := by
  rw [State.makeStep]
  split
  next l line => exact absurd line (h l)
  next => rfl

end

/-! ### Assembly through each step -/

section

variable (s : State) (p : Feed)

theorem State.assembleTo_passed : s.assembleTo p .passed = s.makeStep p .passed := rfl

theorem State.assembleTo_beacon : s.assembleTo p .beacon = (s.assembleTo p .passed).makeStep p .beacon := rfl

theorem State.assembleTo_replies : s.assembleTo p .replies = (s.assembleTo p .beacon).makeStep p .replies := rfl

theorem State.assembleTo_carriage : s.assembleTo p .carriage = (s.assembleTo p .replies).makeStep p .carriage := rfl

end

/-- A line that has made the steps before `x` is assembled through `x` by that step alone. -/
theorem State.assembleTo_of_next {s : State} {p : Feed} {l : Line} {x : LineStep} (h : s.outputs[p] = .line l)
    (next : l.made = lineStepPlace x) :
    s.assembleTo p x = makeLineStep x p { l with made := lineStepPlace x + 1 }
      (s.setOutput p (.line { l with made := lineStepPlace x + 1 })) := by
  have skip : ∀ y : LineStep, lineStepPlace y ≠ lineStepPlace x → s.makeStep p y = s := fun y earlier =>
    State.makeStep_of_other h (next ▸ earlier.symm)
  rw [← State.makeStep_of_next h next]
  cases x with
  | passed => rfl
  | beacon => rw [State.assembleTo_beacon, State.assembleTo_passed, skip .passed (by decide)]
  | replies =>
    rw [State.assembleTo_replies, State.assembleTo_beacon, State.assembleTo_passed, skip .passed (by decide),
      skip .beacon (by decide)]
  | carriage =>
    rw [State.assembleTo_carriage, State.assembleTo_replies, State.assembleTo_beacon, State.assembleTo_passed,
      skip .passed (by decide), skip .beacon (by decide), skip .replies (by decide)]

/-! ### What a step leaves of the outputs -/

/-- What the assembly of output `p` leaves: every other output stands or has been cut, and a line still in progress on
`p` is the one that was, with packets placed and the replies let on. -/
def State.LineKept (p : Feed) (s t : State) : Prop :=
  (∀ q : Feed, q ≠ p → t.outputs[q] = s.outputs[q] ∨ t.outputs[q] = .dark) ∧
    ∀ w, t.outputs[p] = .line w → ∃ l, s.outputs[p] = .line l ∧ w = { l with placed := w.placed, replies := w.replies }

namespace State.LineKept

variable {p : Feed} {s t u : State}

theorem of_outputs (h : t.outputs = s.outputs) : State.LineKept p s t :=
  ⟨fun q _ => .inl (by rw [h]), fun w line => ⟨w, by rw [← h]; exact line, rfl⟩⟩

theorem of_dark (h : ∀ q : Feed, t.outputs[q] = .dark) : State.LineKept p s t :=
  ⟨fun q _ => .inr (h q), fun _ line => absurd ((h p).symm.trans line) nofun⟩

theorem of_executed (h : State.Executed s t) : State.LineKept p s t :=
  h.elim (fun kept => of_outputs kept.1) of_dark

theorem trans (first : State.LineKept p s t) (second : State.LineKept p t u) : State.LineKept p s u := by
  refine ⟨fun q hq => ?others, fun w line => ?own⟩
  case others =>
    rcases second.1 q hq with same | dark
    · rw [same]
      exact first.1 q hq
    · exact .inr dark
  case own =>
    obtain ⟨v, onto, hw⟩ := second.2 w line
    obtain ⟨l, from', hv⟩ := first.2 v onto
    refine ⟨l, from', hw.trans ?_⟩
    rw [hv]

/-- A change of the line's packets and of what is let on. -/
theorem of_updateLine (f : Line → Line) (hf : ∀ l, f l = { l with placed := (f l).placed, replies := (f l).replies }) :
    State.LineKept p s (s.updateLine p f) := by
  by_cases hl : ∃ l, s.outputs[p] = .line l
  · obtain ⟨l, line⟩ := hl
    rw [State.updateLine_of_line f line]
    refine ⟨fun q hq => .inl (State.setOutput_other _ _ _ hq), fun w hw => ⟨l, line, ?_⟩⟩
    have own : w = f l := (Output.line.inj ((State.setOutput_same _ _ _).symm.trans hw)).symm
    rw [own]
    exact hf l
  · refine of_outputs ?_
    unfold State.updateLine
    split
    next l line => exact absurd ⟨l, line⟩ hl
    next => rfl

theorem of_place (k : Packet) : State.LineKept p s (s.place p k) := of_updateLine _ fun _ => rfl

theorem of_forList {α : Type} (f : α → State → State) (xs : List α) (hf : ∀ x t, State.LineKept p t (f x t)) :
    State.LineKept p s (forList f xs s) :=
  forList_keeps (State.LineKept p s) f xs s (of_outputs rfl) fun x _ t ht => ht.trans (hf x t)

end State.LineKept

theorem State.placeCarriage_lineKept (p : Feed) (k : Packet) (x : Slot) (s : State) :
    State.LineKept p s (s.placeCarriage p k x) := by
  unfold State.placeCarriage
  dsimp only
  split
  · split
    · exact .trans (t := (s.setRoute p (s.routes[p].disarm x)).raise (.slotCollision p x)) (.of_outputs rfl)
        (.of_place k)
    · exact .of_outputs rfl
  · exact .of_place k

theorem State.placePassed_lineKept (p : Feed) (x : LinePacket) (s : State) :
    State.LineKept p s (s.placePassed p x) := by
  unfold State.placePassed
  split
  · exact .of_place _
  · split
    · exact .of_outputs rfl
    · split
      · split
        · split
          · exact .of_place _
          · exact State.placeCarriage_lineKept p _ _ s
        · exact .of_place _
      · exact .of_place _

theorem State.passedStep_lineKept (p : Feed) (l : Line) (s : State) : State.LineKept p s (s.passedStep p l) := by
  unfold State.passedStep
  split
  · exact .of_forList _ _ (State.placePassed_lineKept p)
  · exact .of_forList _ _ fun x t => .of_place x.packet

theorem State.beaconStep_lineKept (p : Feed) (l : Line) (s : State) : State.LineKept p s (s.beaconStep p l) := by
  unfold State.beaconStep
  split
  · split
    · split
      · exact .trans (t := { s with beaconPending := false }) (.of_outputs rfl)
          (.trans (.of_place _) (.of_updateLine _ fun _ => rfl))
      · exact .of_outputs rfl
    · exact .of_updateLine _ fun _ => rfl
  · exact .of_outputs rfl

theorem State.placeReply_lineKept (p : Feed) (r : Reply) (rest : List Reply) (s : State) :
    State.LineKept p s (s.placeReply p r rest) :=
  .trans (.of_place r.packet) (.trans (t := { s.place p r.packet with replyQueue := rest }) (.of_outputs rfl)
    (.of_executed (State.runQueue_executed _)))

theorem State.repliesLoop_lineKept (p : Feed) (fresh : Bool) (n : Nat) (s : State) :
    State.LineKept p s (s.repliesLoop p fresh n) := by
  induction n generalizing s with
  | zero => exact .of_outputs rfl
  | succ n ih =>
    unfold State.repliesLoop
    split
    · split
      · split
        · exact .of_outputs rfl
        next r rest _ =>
          split
          · exact (s.placeReply_lineKept p r rest).trans (ih _)
          · split
            · exact s.placeReply_lineKept p r rest
            · exact .of_outputs rfl
      · exact .of_outputs rfl
    · exact .of_outputs rfl

theorem State.carriageRequest_outputs (p : Feed) (k : Nat) (s : State) :
    (s.carriageRequest p k).outputs = s.outputs := by
  rw [State.carriageRequest, State.setCarriage_outputs, State.popFeed_frame]

theorem State.carriageStep_lineKept (p : Feed) (l : Line) (s : State) : State.LineKept p s (s.carriageStep p l) := by
  have request : ∀ k, State.LineKept p s (s.carriageRequest p k) := fun k =>
    .of_outputs (State.carriageRequest_outputs p k s)
  have carried : ∀ k r ks, State.LineKept p s (forList (State.place p) ks ((s.carriageRequest p k).setRoute p r)) :=
    fun k r ks => ((request k).trans (.of_outputs (State.setRoute_outputs _ _ _))).trans
      (.of_forList _ _ fun k _ => .of_place k)
  unfold State.carriageStep
  split
  · dsimp only
    split
    · exact request _
    · split
      · exact request _
      · exact carried _ _ _
  · exact .of_outputs rfl

theorem makeLineStep_lineKept (x : LineStep) (p : Feed) (l : Line) (s : State) :
    State.LineKept p s (makeLineStep x p l s) := by
  cases x with
  | passed => exact s.passedStep_lineKept p l
  | beacon => exact s.beaconStep_lineKept p l
  | replies =>
    unfold makeLineStep State.repliesStep
    dsimp only
    split
    · exact s.repliesLoop_lineKept p _ _
    · exact .of_outputs rfl
  | carriage => exact s.carriageStep_lineKept p l

/-! ### Steps made -/

/-- A line in progress on output `p` has made its first `n` steps. -/
def State.MadeAtLeast (p : Feed) (n : Nat) (s : State) : Prop := ∀ l, s.outputs[p] = .line l → n ≤ l.made

theorem State.MadeAtLeast.mono {p : Feed} {n m : Nat} {s : State} (h : s.MadeAtLeast p n) (le : m ≤ n) :
    s.MadeAtLeast p m := fun l line => le.trans (h l line)

/-- A step once made is not made again (R131). -/
theorem State.makeStep_of_made {p : Feed} {x : LineStep} {s : State} (h : s.MadeAtLeast p (lineStepPlace x + 1)) :
    s.makeStep p x = s := by
  by_cases hl : ∃ l, s.outputs[p] = .line l
  · obtain ⟨l, line⟩ := hl
    exact State.makeStep_of_other line (Nat.ne_of_gt (h l line))
  · exact State.makeStep_of_noLine fun l line => hl ⟨l, line⟩

theorem State.makeStep_made {p : Feed} {x : LineStep} {s : State} (h : s.MadeAtLeast p (lineStepPlace x)) :
    (s.makeStep p x).MadeAtLeast p (lineStepPlace x + 1) := by
  intro w onto
  by_cases hl : ∃ l, s.outputs[p] = .line l ∧ l.made = lineStepPlace x
  · obtain ⟨l, line, next⟩ := hl
    rw [State.makeStep_of_next line next] at onto
    obtain ⟨v, before, hw⟩ := (makeLineStep_lineKept x p _ _).2 w onto
    rw [hw, ← Output.line.inj ((State.setOutput_same _ _ _).symm.trans before)]
  · have same : s.makeStep p x = s := by
      rw [State.makeStep]
      split
      next l line => exact if_neg fun next => hl ⟨l, line, next⟩
      next => rfl
    rw [same] at onto
    exact Nat.lt_of_le_of_ne (h w onto) fun next => hl ⟨w, onto, next.symm⟩

theorem State.makeStep_outputs_other {p q : Feed} (x : LineStep) (s : State) (hq : q ≠ p) :
    (s.makeStep p x).outputs[q] = s.outputs[q] ∨ (s.makeStep p x).outputs[q] = .dark := by
  rw [State.makeStep]
  split
  next l line =>
    split
    next next =>
      refine ((makeLineStep_lineKept x p _ _).1 q hq).imp_left fun same => same.trans ?_
      exact State.setOutput_other _ _ _ hq
    next => exact .inl rfl
  next => exact .inl rfl

/-! ### Assembly -/

theorem State.assembleTo_made (s : State) (p : Feed) (x : LineStep) :
    (s.assembleTo p x).MadeAtLeast p (lineStepPlace x + 1) := by
  have passed : (s.assembleTo p .passed).MadeAtLeast p 1 := State.makeStep_made (x := .passed) fun _ _ => Nat.zero_le _
  have beacon : (s.assembleTo p .beacon).MadeAtLeast p 2 := State.makeStep_made (x := .beacon) passed
  have replies : (s.assembleTo p .replies).MadeAtLeast p 3 := State.makeStep_made (x := .replies) beacon
  cases x with
  | passed => exact passed
  | beacon => exact beacon
  | replies => exact replies
  | carriage => exact State.makeStep_made (x := .carriage) replies

/-- Assembly through a step already made changes nothing. -/
theorem State.assembleTo_of_made {s : State} {p : Feed} {x : LineStep} (h : s.MadeAtLeast p (lineStepPlace x + 1)) :
    s.assembleTo p x = s := by
  refine forList_keeps (fun t => t = s) _ _ s rfl fun y hy t ht => ht ▸ State.makeStep_of_made (ht ▸ h.mono ?_)
  revert hy
  cases x <;> cases y <;> decide

/-- Assembly through a later step goes on from assembly through an earlier one. -/
theorem State.assembleTo_from {first second : LineStep} (h : lineStepPlace first ≤ lineStepPlace second) :
    ∃ rest, ∀ (s : State) (p : Feed), s.assembleTo p second = forList (State.makeStep p) rest (s.assembleTo p first) := by
  refine ⟨([LineStep.passed, .beacon, .replies, .carriage].take (lineStepPlace second + 1)).drop (lineStepPlace first + 1),
    fun s p => ?_⟩
  rw [State.assembleTo, State.assembleTo, ← forList_append]
  congr 1
  revert h
  cases first <;> cases second <;> decide

/-- A line assembled in parts comes to what it comes to at once (R131). -/
theorem State.assembleTo_assembleTo (s : State) (p : Feed) {first second : LineStep}
    (h : lineStepPlace first ≤ lineStepPlace second) :
    (s.assembleTo p first).assembleTo p second = s.assembleTo p second := by
  obtain ⟨rest, goesOn⟩ := State.assembleTo_from h
  rw [goesOn, goesOn, State.assembleTo_of_made (s.assembleTo_made p first)]

theorem State.assembleTo_of_noLine {s : State} {p : Feed} (x : LineStep) (h : ∀ l, s.outputs[p] ≠ .line l) :
    s.assembleTo p x = s :=
  forList_keeps (fun t => t = s) _ _ s rfl fun _ _ _ ht => ht ▸ State.makeStep_of_noLine (ht ▸ h)

theorem State.assembleTo_outputs_other (s : State) {p q : Feed} (x : LineStep) (hq : q ≠ p) :
    (s.assembleTo p x).outputs[q] = s.outputs[q] ∨ (s.assembleTo p x).outputs[q] = .dark :=
  forList_keeps (fun t => t.outputs[q] = s.outputs[q] ∨ t.outputs[q] = .dark) _ _ s (.inl rfl) fun y _ t ht =>
    (State.makeStep_outputs_other y t hq).elim (fun same => by rw [same]; exact ht) .inr

/-- The number of steps made when a line is assembled through a step. -/
theorem stepsThrough_eq (x : LineStep) :
    (match x with | .passed => 1 | .beacon => 2 | .replies => 3 | .carriage => 4) = lineStepPlace x + 1 := by
  cases x <;> rfl

/-- Settles O25: a step raises the count of steps made and no step lowers it (`makeStep_made`), so that the steps of an
earlier assembly are passed over by a later one. -/
theorem assemblyStepsComeInOrder : Obligations.AssemblyStepsComeInOrder := by
  unfold Obligations.AssemblyStepsComeInOrder
  refine ⟨fun s p first second order => ⟨_, _, rfl, rfl, ?parts⟩, fun s p upTo n hn => ⟨fun noLine => ?noLine, ?made⟩,
    fun s p q upTo hq => ⟨_, rfl, s.assembleTo_outputs_other upTo hq⟩⟩
  case parts =>
    have inOrder : lineStepPlace first ≤ lineStepPlace second := by
      rcases order with rfl | rfl | rfl | ⟨rfl, rfl⟩
      · exact le_rfl
      · exact Nat.zero_le _
      · cases first <;> decide
      · decide
    exact congrArg Host.Outcome.next (s.assembleTo_assembleTo p inOrder).symm
  case noLine => exact congrArg Host.Outcome.next (State.assembleTo_of_noLine upTo noLine)
  case made =>
    intro l line done
    refine congrArg Host.Outcome.next (State.assembleTo_of_made fun w onto => ?_)
    rw [← Output.line.inj (line.symm.trans onto)]
    exact ((stepsThrough_eq upTo).symm.trans hn.symm).le.trans done

end Sys2Proof.Machine
end

section
/-! SUPPORT. The passed-packets step (R132, R136, R137): which packets it places, and what the claims of armed slots do to
the live entries and the notices; with them, the lines that only carry their input. -/

namespace Sys2Proof.Machine

/-! ### What a packet places and claims -/

/-- What a packet of the input line puts on a line where no slot is armed (R9, R132, R150). -/
def LinePacket.passed? (y : LinePacket) : Option Packet :=
  match y.origin with
  | .leftCommand => some y.packet
  | .decided strip good => if strip then none else if good then some y.packet else some y.packet.spoilt

theorem Line.carried_normal (l : Line) : l.carried .normal = l.packets.filterMap LinePacket.passed? := rfl

/-- The slot that a packet of the input line claims: a passed CARRIAGE packet with a good sum claims its own (R136). -/
def LinePacket.claim? (y : LinePacket) : Option Slot :=
  if y.origin = .decided false true then y.packet.slot? else none

theorem LinePacket.claim?_eq_some_iff (y : LinePacket) (x : Slot) : y.claim? = some x ↔
    y.origin = .decided false true ∧ y.packet.kind = 0x60#8 ∧
      (y.packet.payload.head?.map fun head => head.toNat % 8) = some x.val := by
  have sameSlot : ∀ head : FeedWord, headSlot head = x ↔ head.toNat % 8 = x.val := fun head => by
    rw [← headSlot_val]
    exact Fin.ext_iff
  unfold LinePacket.claim? Packet.slot?
  by_cases decided : y.origin = .decided false true
  · by_cases kind : y.packet.kind = kindCarriage
    · rw [if_pos decided, if_pos kind]
      cases y.packet.payload.head? with
      | none => simp
      | some head => simp [decided, show y.packet.kind = 0x60#8 from kind, sameSlot]
    · rw [if_pos decided, if_neg kind]
      simp [show y.packet.kind ≠ 0x60#8 from kind]
  · simp [decided]

/-- A live entry that removes the packets that claim its slot: armed under OVERRIDE (R137). -/
def Route.overrides (r : Route) (x : Slot) : Bool := r.live[x].armed && r.live[x].policy == .overrides

/-- What a packet of the input line puts on a line, given the live entries (R132, R136, R137). -/
def LinePacket.placedUnder (r : Route) (y : LinePacket) : Option Packet :=
  if y.claim?.any r.overrides then none else y.passed?

/-- What a claim of slot `x` does to its live entry and to the notices (R136, R137). -/
def State.meets (p : Feed) (x : Slot) (s : State) : State :=
  if s.routes[p].live[x].armed then
    (if s.routes[p].live[x].policy = .yields then s.setRoute p (s.routes[p].disarm x) else s).raise (.slotCollision p x)
  else s

/-- What a packet of the input line does to the live entries and to the notices. -/
def State.met (p : Feed) (y : LinePacket) (s : State) : State := y.claim?.elim s fun x => s.meets p x

/-- The three ways a live entry meets a claim (R136, R137). -/
theorem Route.slot_cases (r : Route) (x : Slot) :
    r.live[x].armed = false ∨ (r.live[x].armed = true ∧ r.live[x].policy = .yields) ∨
      (r.live[x].armed = true ∧ r.live[x].policy = .overrides) := by
  cases r.live[x].armed <;> cases r.live[x].policy <;> simp

theorem Route.overrides_of_unarmed {r : Route} {x : Slot} (h : r.live[x].armed = false) : r.overrides x = false := by
  rw [Route.overrides, h, Bool.false_and]

theorem Route.overrides_of_yields {r : Route} {x : Slot} (h : r.live[x].policy = .yields) : r.overrides x = false := by
  rw [Route.overrides, h, Bool.and_eq_false_iff]
  exact .inr rfl

theorem Route.overrides_of_overrides {r : Route} {x : Slot} (armed : r.live[x].armed = true)
    (h : r.live[x].policy = .overrides) : r.overrides x = true := by
  rw [Route.overrides, armed, h]
  rfl

section

variable {s : State} {p : Feed}

theorem State.meets_of_unarmed {x : Slot} (h : s.routes[p].live[x].armed = false) : s.meets p x = s :=
  if_neg (by rw [h]; decide)

theorem State.meets_of_yields {x : Slot} (armed : s.routes[p].live[x].armed = true)
    (h : s.routes[p].live[x].policy = .yields) :
    s.meets p x = (s.setRoute p (s.routes[p].disarm x)).raise (.slotCollision p x) := by
  rw [State.meets, if_pos armed, if_pos h]

theorem State.meets_of_overrides {x : Slot} (armed : s.routes[p].live[x].armed = true)
    (h : s.routes[p].live[x].policy = .overrides) : s.meets p x = s.raise (.slotCollision p x) := by
  rw [State.meets, if_pos armed, if_neg (by rw [h]; decide)]

theorem State.meets_setOutput (x : Slot) (o : Output) : (s.setOutput p o).meets p x = (s.meets p x).setOutput p o := by
  rcases s.routes[p].slot_cases x with unarmed | ⟨armed, yields⟩ | ⟨armed, overrides⟩
  · rw [State.meets_of_unarmed unarmed, State.meets_of_unarmed (s := s.setOutput p o) unarmed]
  · rw [State.meets_of_yields armed yields, State.meets_of_yields (s := s.setOutput p o) armed yields]
    rfl
  · rw [State.meets_of_overrides armed overrides, State.meets_of_overrides (s := s.setOutput p o) armed overrides]
    rfl

/-- A claim of slot `x` is met, and the packet is placed unless the entry removes it. -/
theorem State.placeCarriage_eq (k : Packet) (x : Slot) (l : Line) :
    (s.setOutput p (.line l)).placeCarriage p k x = (s.meets p x).setOutput p
      (.line { l with placed := l.placed ++ (if s.routes[p].overrides x then [] else [k]) }) := by
  unfold State.placeCarriage
  simp only [State.setOutput_routes]
  rcases s.routes[p].slot_cases x with unarmed | ⟨armed, yields⟩ | ⟨armed, overrides⟩
  · rw [State.meets_of_unarmed unarmed, Route.overrides_of_unarmed unarmed]
    exact (if_neg (by rw [unarmed]; decide)).trans (State.place_setOutput l k)
  · rw [State.meets_of_yields armed yields, Route.overrides_of_yields yields]
    refine (if_pos armed).trans ?_
    rw [yields]
    exact State.place_setOutput (s := (s.setRoute p (s.routes[p].disarm x)).raise (.slotCollision p x)) l k
  · rw [State.meets_of_overrides armed overrides, Route.overrides_of_overrides armed overrides, if_pos rfl,
      List.append_nil]
    refine (if_pos armed).trans ?_
    rw [overrides]
    rfl

/-- A packet of the input line that claims no slot is placed as it passes. -/
theorem State.placePassed_of_noClaim {y : LinePacket} (l : Line) (h : y.claim? = none) :
    (s.setOutput p (.line l)).placePassed p y =
      s.setOutput p (.line { l with placed := l.placed ++ y.passed?.toList }) := by
  unfold State.placePassed LinePacket.passed?
  cases origin : y.origin with
  | leftCommand => exact State.place_setOutput l y.packet
  | decided strip good =>
    cases strip with
    | true => simp
    | false =>
      cases good with
      | false => exact State.place_setOutput l y.packet.spoilt
      | true =>
        have noSlot : y.packet.slot? = none := by rwa [LinePacket.claim?, if_pos origin] at h
        simp only [noSlot, ite_self, Bool.false_eq_true, if_false, if_true]
        exact State.place_setOutput l y.packet

theorem State.placePassed_of_claim {y : LinePacket} {x : Slot} (h : y.claim? = some x) :
    s.placePassed p y = s.placeCarriage p y.packet x ∧ y.passed? = some y.packet := by
  obtain ⟨origin, kind, -⟩ := (y.claim?_eq_some_iff x).mp h
  have slot : y.packet.slot? = some x := by rwa [LinePacket.claim?, if_pos origin] at h
  constructor
  · have carriage : y.packet.kind = kindCarriage := kind
    simp only [State.placePassed, origin, carriage, slot, Bool.false_eq_true, if_false, if_true]
  · simp only [LinePacket.passed?, origin, Bool.false_eq_true, if_false, if_true]

/-- One packet of the input line: its claim is met, and what the live entries leave of it is placed. -/
theorem State.placePassed_eq (y : LinePacket) (l : Line) :
    (s.setOutput p (.line l)).placePassed p y = (s.met p y).setOutput p
      (.line { l with placed := l.placed ++ (y.placedUnder s.routes[p]).toList }) := by
  cases h : y.claim? with
  | none =>
    rw [State.placePassed_of_noClaim l h]
    simp [State.met, LinePacket.placedUnder, h]
  | some x =>
    obtain ⟨carriage, passed⟩ := State.placePassed_of_claim (s := s.setOutput p (.line l)) (p := p) h
    rw [carriage, State.placeCarriage_eq]
    rw [State.met, LinePacket.placedUnder, h, passed, Option.any_some, Option.elim_some]
    cases s.routes[p].overrides x <;> rfl

/-! ### What the claims leave -/

/-- A claim does not change which slots remove the packets that claim them: only a YIELD entry is disarmed. -/
theorem State.meets_overrides (x : Slot) : (s.meets p x).routes[p].overrides = s.routes[p].overrides := by
  rcases s.routes[p].slot_cases x with unarmed | ⟨armed, yields⟩ | ⟨armed, overrides⟩
  · rw [State.meets_of_unarmed unarmed]
  · funext z
    rw [State.meets_of_yields armed yields, State.raise_routes, State.setRoute_same]
    by_cases same : z = x
    · subst same
      rw [Route.overrides_of_yields yields]
      refine Route.overrides_of_unarmed ?_
      rw [Route.disarm, vector_set_same]
    · unfold Route.overrides Route.disarm
      rw [vector_set_other _ _ same]
  · rw [State.meets_of_overrides armed overrides, State.raise_routes]

theorem State.met_overrides (y : LinePacket) : (s.met p y).routes[p].overrides = s.routes[p].overrides := by
  unfold State.met
  cases y.claim? with
  | none => rfl
  | some x => exact State.meets_overrides x

/-- The passed-packets step of a NORMAL line: every claim is met, and what the live entries leave is placed. -/
theorem forList_placePassed (ks : List LinePacket) (l : Line) :
    forList (State.placePassed p) ks (s.setOutput p (.line l)) = (forList (State.met p) ks s).setOutput p
      (.line { l with placed := l.placed ++ ks.filterMap (LinePacket.placedUnder s.routes[p]) }) := by
  induction ks generalizing s l with
  | nil => rw [List.filterMap_nil, List.append_nil]; rfl
  | cons y ks ih =>
    have unmoved : LinePacket.placedUnder (s.met p y).routes[p] = LinePacket.placedUnder s.routes[p] := by
      funext z
      rw [LinePacket.placedUnder, State.met_overrides]
      rfl
    rw [forList_cons, forList_cons, State.placePassed_eq, ih, unmoved]
    cases h : y.placedUnder s.routes[p] with
    | none => rw [List.filterMap_cons_none h, Option.toList_none, List.append_nil]
    | some k => rw [List.filterMap_cons_some h, Option.toList_some, List.append_assoc, List.singleton_append]

/-- Where no slot is armed a claim meets nothing. -/
theorem State.met_of_unarmed (y : LinePacket) (h : ∀ x : Slot, s.routes[p].live[x].armed = false) : s.met p y = s := by
  unfold State.met
  cases y.claim? with
  | none => rfl
  | some x => exact State.meets_of_unarmed (h x)

theorem forList_met_of_unarmed (ks : List LinePacket) (h : ∀ x : Slot, s.routes[p].live[x].armed = false) :
    forList (State.met p) ks s = s :=
  forList_keeps (fun t => t = s) _ _ s rfl fun y _ _ ht => ht ▸ State.met_of_unarmed y (ht ▸ h)

theorem LinePacket.placedUnder_of_unarmed {r : Route} (h : ∀ x : Slot, r.live[x].armed = false) :
    LinePacket.placedUnder r = LinePacket.passed? := by
  funext y
  have none' : y.claim?.any r.overrides = false := by
    cases y.claim? with
    | none => rfl
    | some x => exact Route.overrides_of_unarmed (h x)
  rw [LinePacket.placedUnder, none']
  rfl

/-- The passed-packets step where no slot is armed, or under BYPASS: the line carries its input (R9, R35, R132, R150). -/
theorem State.passedStep_of_quiet {l : Line} (made : Line)
    (h : s.paths[p].inForce = .bypass ∨ ∀ x : Slot, s.routes[p].live[x].armed = false) (same : made.packets = l.packets) :
    (s.setOutput p (.line made)).passedStep p made =
      s.setOutput p (.line { made with placed := made.placed ++ l.carried s.paths[p].inForce }) := by
  unfold State.passedStep
  simp only [State.setOutput_paths]
  cases mode : s.paths[p].inForce with
  | bypass =>
    have map : forList (fun x => State.place p (LinePacket.packet x)) made.packets (s.setOutput p (.line made)) =
        forList (State.place p) (made.packets.map LinePacket.packet) (s.setOutput p (.line made)) := by
      simp [forList, List.foldl_map]
    exact map.trans (by rw [forList_place, same]; rfl)
  | normal =>
    have unarmed := h.resolve_left (by rw [mode]; nofun)
    refine (forList_placePassed made.packets made).trans ?_
    rw [forList_met_of_unarmed _ unarmed, LinePacket.placedUnder_of_unarmed unarmed, same]
    rfl

end

end Sys2Proof.Machine
end

section
/-! SUPPORT. The steps that place nothing, and with them the lines that only carry their input (R131, R132); what the claims
of the armed slots come to (R136, R137). -/

namespace Sys2Proof.Machine

/-! ### Steps that place nothing -/

section

variable {s : State} {p : Feed}

theorem State.makeStep_setOutput {l : Line} {x : LineStep} (next : l.made = lineStepPlace x) :
    (s.setOutput p (.line l)).makeStep p x =
      makeLineStep x p { l with made := lineStepPlace x + 1 }
        (s.setOutput p (.line { l with made := lineStepPlace x + 1 })) := by
  rw [State.makeStep_of_next (State.setOutput_same s p _) next, State.setOutput_setOutput]

theorem State.beaconStep_of_otherFeed (l : Line) (h : s.settings.replyFeed ≠ p) : s.beaconStep p l = s := if_neg h

theorem State.repliesLoop_of_otherFeed (fresh : Bool) (n : Nat) (h : s.settings.replyFeed ≠ p) :
    s.repliesLoop p fresh n = s := by
  cases n with
  | zero => rfl
  | succ n =>
    unfold State.repliesLoop
    split
    · exact if_neg h
    · rfl

theorem State.repliesStep_of_otherFeed (l : Line) (h : s.settings.replyFeed ≠ p) : s.repliesStep p l = s := by
  unfold State.repliesStep
  split
  · exact State.repliesLoop_of_otherFeed _ _ h
  · rfl

theorem State.carriageStep_of_quiet {l : Line} (h : l.index < s.carriage[p].frameQuiet) : s.carriageStep p l = s :=
  if_neg (Nat.not_le.mpr h)

end

/-- Settles O26: the passed-packets step places what the line carries, and on a quiet line off the reply feed each other
step only counts itself. -/
theorem quietLineCarriesItsInput : Obligations.QuietLineCarriesItsInput := by
  unfold Obligations.QuietLineCarriesItsInput
  intro s p upTo n l line start quiet noSlot hn
  have through : n = lineStepPlace upTo + 1 := hn.trans (stepsThrough_eq upTo)
  subst through
  have passed : s.assembleTo p .passed =
      s.setOutput p (.line { l with made := 1, placed := l.placed ++ l.carried s.paths[p].inForce }) :=
    (State.assembleTo_of_next (x := .passed) line start).trans (State.passedStep_of_quiet { l with made := 1 } noSlot rfl)
  refine congrArg Host.Outcome.next ?_
  by_cases first : upTo = .passed
  · subst first
    exact passed
  · obtain ⟨otherFeed, quietLine⟩ := quiet.resolve_left first
    have beacon : s.assembleTo p .beacon =
        s.setOutput p (.line { l with made := 2, placed := l.placed ++ l.carried s.paths[p].inForce }) := by
      rw [State.assembleTo_beacon, passed, State.makeStep_setOutput rfl]
      exact State.beaconStep_of_otherFeed _ otherFeed
    have replies : s.assembleTo p .replies =
        s.setOutput p (.line { l with made := 3, placed := l.placed ++ l.carried s.paths[p].inForce }) := by
      rw [State.assembleTo_replies, beacon, State.makeStep_setOutput rfl]
      exact State.repliesStep_of_otherFeed _ otherFeed
    cases upTo with
    | passed => exact absurd rfl first
    | beacon => exact beacon
    | replies => exact replies
    | carriage =>
      rw [State.assembleTo_carriage, replies, State.makeStep_setOutput rfl]
      exact State.carriageStep_of_quiet quietLine

/-! ### What the claims of a slot come to (R136, R137) -/

/-- What a slot's claims touch: its live entry and its collision notice. -/
def State.slotView (p : Feed) (x : Slot) (s : State) : SlotEntry × NoticeRecord :=
  (s.routes[p].live[x], s.notice (.slotCollision p x))

/-- One claim of the slot. -/
def claimMet (v : SlotEntry × NoticeRecord) : SlotEntry × NoticeRecord :=
  if v.1.armed then (if v.1.policy = .yields then { v.1 with armed := false } else v.1, v.2.raise) else v

theorem claimMet_of_unarmed {e : SlotEntry} (r : NoticeRecord) (h : e.armed = false) : claimMet (e, r) = (e, r) :=
  if_neg (by rw [h]; decide)

theorem claimMet_of_yields {e : SlotEntry} (r : NoticeRecord) (armed : e.armed = true) (h : e.policy = .yields) :
    claimMet (e, r) = ({ e with armed := false }, r.raise) := by
  rw [claimMet, if_pos armed, if_pos h]

theorem claimMet_of_overrides {e : SlotEntry} (r : NoticeRecord) (armed : e.armed = true) (h : e.policy = .overrides) :
    claimMet (e, r) = (e, r.raise) := by
  rw [claimMet, if_pos armed, if_neg (by rw [h]; decide)]

theorem claimMet_iterate_of_unarmed {e : SlotEntry} (r : NoticeRecord) (h : e.armed = false) (n : Nat) :
    claimMet^[n] (e, r) = (e, r) := by
  induction n with
  | zero => rfl
  | succ n ih => rw [Function.iterate_succ_apply, claimMet_of_unarmed r h, ih]

/-- A YIELD entry is disarmed by its first claim, and raises once (R136). -/
theorem claimMet_iterate_of_yields {e : SlotEntry} (r : NoticeRecord) (armed : e.armed = true) (h : e.policy = .yields)
    {n : Nat} (hn : n ≠ 0) : claimMet^[n] (e, r) = ({ e with armed := false }, r.raise) := by
  obtain ⟨m, rfl⟩ := Nat.exists_eq_succ_of_ne_zero hn
  rw [Function.iterate_succ_apply, claimMet_of_yields r armed h, claimMet_iterate_of_unarmed _ rfl]

/-- An OVERRIDE entry stays, and raises with every claim (R137). -/
theorem claimMet_iterate_of_overrides {e : SlotEntry} (r : NoticeRecord) (armed : e.armed = true)
    (h : e.policy = .overrides) (n : Nat) : claimMet^[n] (e, r) = (e, NoticeRecord.raise^[n] r) := by
  induction n generalizing r with
  | zero => rfl
  | succ n ih => rw [Function.iterate_succ_apply, claimMet_of_overrides r armed h, ih, Function.iterate_succ_apply]

theorem NoticeRecord.raise_iterate (r : NoticeRecord) {n : Nat} (hn : n ≠ 0) :
    NoticeRecord.raise^[n] r = { raised := true, generation := (r.generation + n) % 256 } := by
  obtain ⟨m, rfl⟩ := Nat.exists_eq_succ_of_ne_zero hn
  clear hn
  induction m with
  | zero => rfl
  | succ m ih =>
    rw [Function.iterate_succ_apply', ih, NoticeRecord.raise, NoticeRecord.mk.injEq]
    exact ⟨rfl, by dsimp only; omega⟩

section

variable {s : State} {p : Feed}

theorem State.meets_slotView_same (x : Slot) : (s.meets p x).slotView p x = claimMet (s.slotView p x) := by
  unfold State.slotView
  rcases s.routes[p].slot_cases x with unarmed | ⟨armed, yields⟩ | ⟨armed, overrides⟩
  · rw [State.meets_of_unarmed unarmed, claimMet_of_unarmed _ unarmed]
  · rw [State.meets_of_yields armed yields, claimMet_of_yields _ armed yields, State.raise_routes, State.setRoute_same,
      Route.disarm, vector_set_same, State.notice_raise_same]
    rfl
  · rw [State.meets_of_overrides armed overrides, claimMet_of_overrides _ armed overrides, State.raise_routes,
      State.notice_raise_same]
    rfl

theorem State.meets_slotView_other {x z : Slot} (h : z ≠ x) : (s.meets p x).slotView p z = s.slotView p z := by
  have otherNotice : Notice.slotCollision p z ≠ .slotCollision p x := fun e => h (Notice.slotCollision.inj e).2
  unfold State.slotView
  rcases s.routes[p].slot_cases x with unarmed | ⟨armed, yields⟩ | ⟨armed, overrides⟩
  · rw [State.meets_of_unarmed unarmed]
  · rw [State.meets_of_yields armed yields, State.raise_routes, State.setRoute_same, Route.disarm,
      vector_set_other _ _ h, State.notice_raise_other _ otherNotice]
    rfl
  · rw [State.meets_of_overrides armed overrides, State.raise_routes, State.notice_raise_other _ otherNotice]

theorem State.met_slotView (y : LinePacket) (x : Slot) :
    (s.met p y).slotView p x = if y.claim? = some x then claimMet (s.slotView p x) else s.slotView p x := by
  unfold State.met
  cases y.claim? with
  | none => rfl
  | some z =>
    by_cases same : z = x
    · subst same
      rw [if_pos rfl]
      exact State.meets_slotView_same z
    · rw [if_neg fun e => same (Option.some.inj e)]
      exact State.meets_slotView_other (Ne.symm same)

/-- A slot's live entry and notice see its own claims, one after another. -/
theorem forList_met_slotView (ks : List LinePacket) (x : Slot) :
    (forList (State.met p) ks s).slotView p x =
      claimMet^[(ks.filter fun y => y.claim? = some x).length] (s.slotView p x) := by
  induction ks generalizing s with
  | nil => rfl
  | cons y ks ih =>
    rw [forList_cons, ih, State.met_slotView]
    by_cases claim : y.claim? = some x
    · rw [if_pos claim, List.filter_cons_of_pos (by simpa using claim), List.length_cons, Function.iterate_succ_apply]
    · rw [if_neg claim, List.filter_cons_of_neg (by simpa using claim)]

/-- The claims touch the live entries of the line's feed and the collision notices of its slots, and nothing else. -/
theorem State.meets_frame (x : Slot) : s.meets p x = { s with
    routes := s.routes.set p { s.routes[p] with live := (s.meets p x).routes[p].live }
    notices := (s.meets p x).notices } := by
  have own : s.routes = s.routes.set p { s.routes[p] with live := s.routes[p].live } :=
    (Vector.set_own _ _ rfl).symm
  rcases s.routes[p].slot_cases x with unarmed | ⟨armed, yields⟩ | ⟨armed, overrides⟩
  · rw [State.meets_of_unarmed unarmed, ← own]
  · rw [State.meets_of_yields armed yields, State.raise_routes, State.setRoute_same]
    rfl
  · rw [State.meets_of_overrides armed overrides, State.raise_routes, ← own]
    rfl

theorem State.met_notice_other (y : LinePacket) {n : Notice} (h : ∀ x : Slot, n ≠ .slotCollision p x) :
    (s.met p y).notice n = s.notice n := by
  unfold State.met
  cases y.claim? with
  | none => rfl
  | some x =>
    rcases s.routes[p].slot_cases x with unarmed | ⟨armed, yields⟩ | ⟨armed, overrides⟩
    · exact congrArg (State.notice · n) (State.meets_of_unarmed unarmed)
    · rw [Option.elim_some, State.meets_of_yields armed yields, State.notice_raise_other _ (h x)]
      rfl
    · rw [Option.elim_some, State.meets_of_overrides armed overrides, State.notice_raise_other _ (h x)]

theorem forList_met_notice_other (ks : List LinePacket) {n : Notice} (h : ∀ x : Slot, n ≠ .slotCollision p x) :
    (forList (State.met p) ks s).notice n = s.notice n :=
  forList_same (State.notice · n) _ _ _ fun y _ _ => State.met_notice_other y h

theorem forList_met_frame (ks : List LinePacket) : forList (State.met p) ks s = { s with
    routes := s.routes.set p { s.routes[p] with live := (forList (State.met p) ks s).routes[p].live }
    notices := (forList (State.met p) ks s).notices } := by
  refine forList_keeps (fun t => t = { s with
    routes := s.routes.set p { s.routes[p] with live := t.routes[p].live }, notices := t.notices }) _ _ s ?_
    fun y _ t ht => ?_
  · rw [Vector.set_own _ _ rfl]
  · unfold State.met
    cases y.claim? with
    | none => exact ht
    | some x =>
      have frame := State.meets_frame (s := t) (p := p) x
      rw [Option.elim_some]
      generalize t.meets p x = u at frame ⊢
      rw [frame, ht]
      simp only [vector_set_same, Vector.set_set]

end

/-- A packet is removed exactly when the slot it claims is one that overrides. -/
theorem LinePacket.any_claims (y : LinePacket) (r : Route) :
    ((List.finRange 8).any fun x => decide (y.claim? = some x) && r.live[x].armed && r.live[x].policy == .overrides) =
      y.claim?.any r.overrides := by
  rw [Bool.eq_iff_iff, List.any_eq_true]
  cases y.claim? with
  | none => simp
  | some z => simp [Route.overrides, List.mem_finRange]

/-- Settles O27: the line, each slot's live entry and notice, and the rest, each read off the step's packets
(`forList_placePassed`, `forList_met_slotView`, `forList_met_frame`). -/
theorem collisionFollowsThePolicy : Obligations.CollisionFollowsThePolicy := by
  unfold Obligations.CollisionFollowsThePolicy
  intro s p l claims line start normal claims_iff
  have claims_eq : ∀ y x, claims y x = decide (y.claim? = some x) := fun y x => by
    rw [Bool.eq_iff_iff, claims_iff, decide_eq_true_iff, LinePacket.claim?_eq_some_iff]
  have counted : ∀ x, (l.packets.filter fun y => claims y x) = l.packets.filter fun y => y.claim? = some x := fun x =>
    List.filter_congr fun y _ => claims_eq y x
  have someClaim : ∀ x, (l.packets.filter fun y => y.claim? = some x).length ≠ 0 ↔ ∃ y ∈ l.packets, claims y x = true :=
    fun x => by
      rw [← counted, Ne, List.length_eq_zero_iff, List.filter_eq_nil_iff]
      simp
  have passed : s.assembleTo p .passed = (forList (State.met p) l.packets s).setOutput p (.line { l with
      made := 1, placed := l.placed ++ l.packets.filterMap (LinePacket.placedUnder s.routes[p]) }) := by
    rw [State.assembleTo_of_next (x := .passed) line start]
    unfold makeLineStep State.passedStep
    dsimp only
    rw [State.setOutput_paths, normal]
    exact forList_placePassed l.packets { l with made := 1 }
  have view := fun x => forList_met_slotView (s := s) (p := p) l.packets x
  have others := fun n h => forList_met_notice_other (s := s) (p := p) l.packets (n := n) h
  have frame := forList_met_frame (s := s) (p := p) l.packets
  generalize forList (State.met p) l.packets s = u at passed view others frame
  refine ⟨_, { l with made := 1, placed := l.placed ++ l.packets.filterMap (LinePacket.placedUnder s.routes[p]) },
    congrArg Host.Outcome.next passed, ?state, rfl, ?placed, ?routes, fun x => ?live, fun x => ⟨?calm, ?raised⟩, others⟩
  case state =>
    rw [frame]
    rfl
  case placed =>
    refine congrArg (l.placed ++ ·) (List.filterMap_congr fun y _ => ?_)
    have removed := y.any_claims s.routes[p]
    simp only [← claims_eq] at removed
    rw [removed]
    cases origin : y.origin with
    | leftCommand => simp [LinePacket.placedUnder, LinePacket.claim?, LinePacket.passed?, origin]
    | decided strip good =>
      cases strip with
      | true => simp [LinePacket.placedUnder, LinePacket.passed?, origin]
      | false =>
        cases good with
        | false => simp [LinePacket.placedUnder, LinePacket.claim?, LinePacket.passed?, origin]; rfl
        | true => simp [LinePacket.placedUnder, LinePacket.passed?, origin]
  case routes => exact (congrArg State.routes frame :)
  case live =>
    have entry : u.routes[p].live[x] = _ := congrArg Prod.fst (view x)
    refine entry.trans ?_
    unfold State.slotView
    rcases s.routes[p].slot_cases x with unarmed | ⟨armed, yields⟩ | ⟨armed, overrides⟩
    · rw [claimMet_iterate_of_unarmed _ unarmed, if_neg fun h => by rw [unarmed] at h; exact absurd h.1 (by decide)]
    · by_cases claimed : ∃ y ∈ l.packets, claims y x = true
      · rw [claimMet_iterate_of_yields _ armed yields ((someClaim x).mpr claimed),
          if_pos ⟨armed, yields, List.any_eq_true.mpr claimed⟩]
      · rw [if_neg fun h => claimed (List.any_eq_true.mp h.2.2), not_not.mp (mt (someClaim x).mp claimed)]
        rfl
    · rw [claimMet_iterate_of_overrides _ armed overrides,
        if_neg fun h => by rw [overrides] at h; exact absurd h.2.1 (by decide)]
  case calm =>
    intro calm
    have record : u.notice (.slotCollision p x) = _ := congrArg Prod.snd (view x)
    refine record.trans ?_
    unfold State.slotView
    rcases calm with unarmed | unclaimed
    · rw [claimMet_iterate_of_unarmed _ unarmed]
    · rw [not_not.mp (mt (someClaim x).mp fun ⟨y, hy, claim⟩ => by rw [unclaimed y hy] at claim; exact absurd claim (by decide))]
      rfl
  case raised =>
    intro armed claimed
    have record : u.notice (.slotCollision p x) = _ := congrArg Prod.snd (view x)
    refine record.trans ?_
    unfold State.slotView
    rw [counted]
    cases policy : s.routes[p].live[x].policy with
    | yields =>
      rw [claimMet_iterate_of_yields _ armed policy ((someClaim x).mpr claimed), if_pos rfl]
      rfl
    | overrides =>
      rw [claimMet_iterate_of_overrides _ armed policy, NoticeRecord.raise_iterate _ ((someClaim x).mpr claimed),
        if_neg (by decide)]

end Sys2Proof.Machine
end

section
/-! SUPPORT. The carriage step: the pops of a line do not look at the outputs, the carriage packets fit the room that the
set count was reduced for (R107), and what the step does on each kind of line (R106, R129, R130, R135). -/

namespace Sys2Proof.Machine

/-! ### Pops and outputs -/

section

variable (s : State) (p q : Feed) (o : Output)

theorem State.probeMeasure_setOutput (l : LaneId) (sets : List SampleSet) :
    (s.setOutput q o).probeMeasure p l sets = (s.probeMeasure p l sets).setOutput q o := by
  unfold State.probeMeasure
  rw [State.setOutput_probe]
  cases s.probe.run with
  | measuring lane feed work => dsimp only; split <;> rfl
  | _ => rfl

theorem State.probeLeft_setOutput (l : LaneId) : (s.setOutput q o).probeLeft l = (s.probeLeft l).setOutput q o := by
  unfold State.probeLeft
  rw [State.setOutput_probe]
  cases s.probe.run with
  | measuring lane feed work => dsimp only; split <;> rfl
  | _ => rfl

theorem State.popLane_setOutput (k : Nat) (l : LaneId) :
    (s.setOutput q o).popLane p k l = (s.popLane p k l).setOutput q o := by
  by_cases drains : s.lanes[l].drain = p
  · have lane : (s.setOutput q o).setLane l ((s.setOutput q o).lanes[l].popTimes k).1 =
        (s.setLane l (s.lanes[l].popTimes k).1).setOutput q o := rfl
    have raised : ∀ t : State, (t.setOutput q o).raise (.laneStarved l) = (t.raise (.laneStarved l)).setOutput q o :=
      fun _ => rfl
    rw [State.popLane_of_feed drains, State.popLane_of_feed (s := s.setOutput q o) drains, lane,
      State.probeMeasure_setOutput, raised, State.probeLeft_setOutput, State.setOutput_lanes]
    split <;> rfl
  · rw [State.popLane_of_otherFeed drains, State.popLane_of_otherFeed (s := s.setOutput q o) drains]

theorem State.popFeed_setOutput (k : Nat) : (s.setOutput q o).popFeed p k = (s.popFeed p k).setOutput q o := by
  have pops : ∀ (ls : List LaneId) (t : State), forList (fun l t => State.popLane p k l t) ls (t.setOutput q o) =
      (forList (fun l t => State.popLane p k l t) ls t).setOutput q o := fun ls => by
    induction ls with
    | nil => exact fun _ => rfl
    | cons l ls ih =>
      intro t
      rw [forList_cons, forList_cons, State.popLane_setOutput, ih]
  exact pops _ s

theorem State.carriageRequest_setOutput (k : Nat) :
    (s.setOutput q o).carriageRequest p k = (s.carriageRequest p k).setOutput q o := by
  have record : (s.setOutput q o).carriage = s.carriage := rfl
  rw [State.carriageRequest, State.carriageRequest, State.popFeed_setOutput, record]
  generalize s.popFeed p k = t
  rfl

/-- A request changes the feed's carriage record, the lanes, the probe and the notices (R106, R108). -/
theorem State.carriageRequest_frame (k : Nat) : s.carriageRequest p k = { s with
    carriage := s.carriage.set p (s.carriage[p].requested k), lanes := (s.popFeed p k).lanes
    probe := (s.popFeed p k).probe, notices := (s.popFeed p k).notices } := by
  unfold State.carriageRequest
  have frame := s.popFeed_frame p k
  generalize s.popFeed p k = t at frame ⊢
  rw [frame]
  rfl

end

/-! ### The words of the carriage packets (R14, R107) -/

theorem packetsSize_append (a b : List Packet) : packetsSize (a ++ b) = packetsSize a + packetsSize b := by
  simp [packetsSize]

theorem SlotEntry.outputs_length (e : SlotEntry) (yields : LaneId → List SampleSet) (k : Nat) :
    (e.outputs yields k).length = k := by
  simp [SlotEntry.outputs]

theorem carriagePacket_size (x : Slot) (phase : Nat) (sets : List SampleSet) :
    (carriagePacket x phase sets).size = 6 * (sets.length + 1) := by
  have span := carriagePacket_span x phase sets
  rw [Packet.size, span]
  ring

theorem Route.carriagePackets_size (r : Route) (phase k : Nat) (yields : LaneId → List SampleSet) :
    packetsSize (r.carriagePackets phase k yields) = 6 * r.armedSlots.length * (k + 1) := by
  have each : (r.carriagePackets phase k yields).map Packet.size = r.armedSlots.map fun _ => 6 * (k + 1) := by
    rw [Route.carriagePackets, List.map_map]
    refine List.map_congr_left fun x _ => ?_
    rw [Function.comp_apply, carriagePacket_size, SlotEntry.outputs_length]
  rw [packetsSize, each, List.map_const', List.sum_replicate, smul_eq_mul]
  ring

/-- The packets of a set count that was reduced for the room fit it (R107). -/
theorem carriagePackets_fit {owed room k n : Nat} (h : k = setCount owed (some room) n) (hk : k ≠ 0) :
    6 * n * (k + 1) ≤ room := by
  rcases Nat.eq_zero_or_pos n with rfl | slots
  · simp
  · rw [setCount_of_slots owed room slots] at h
    exact ((le_roomCount_iff slots).mp (h.le.trans (Nat.min_le_right _ _))).resolve_left hk

theorem Route.clipped_clips (r : Route) (k : Nat) (yields : LaneId → List SampleSet) (x : Slot) :
    (r.clipped k yields).clips[x] =
      if r.live[x].armed then min 65535 (r.clips[x] + r.live[x].clipsOf yields k) else r.clips[x] :=
  Vector.getElem_ofFn _

/-! ### The carriage step -/

section

variable {s : State} {p : Feed} {l : Line}

theorem State.carriageStep_of_bypass (bypass : s.paths[p].inForce = .bypass) (carriage : s.carriage[p].frameQuiet ≤ l.index) :
    (s.setOutput p (.line l)).carriageStep p l =
      (s.carriageRequest p (min 4 (s.carriage[p].owed + s.carriage[p].due))).setOutput p (.line l) := by
  unfold State.carriageStep State.requestRoom
  simp only [State.setOutput_carriage, State.setOutput_paths, bypass]
  rw [if_pos carriage]
  exact State.carriageRequest_setOutput s p p _ _

/-- The set count of a NORMAL line: what is owed and due, reduced for the room left (R106, R107). -/
def State.normalCount (s : State) (p : Feed) (l : Line) : Nat :=
  setCount (s.carriage[p].owed + s.carriage[p].due) (some l.roomLeft) s.routes[p].armedSlots.length

theorem State.carriageStep_of_normal (normal : s.paths[p].inForce = .normal)
    (carriage : s.carriage[p].frameQuiet ≤ l.index) :
    (s.setOutput p (.line l)).carriageStep p l =
      if s.normalCount p l = 0 then (s.carriageRequest p 0).setOutput p (.line l)
      else ((s.carriageRequest p (s.normalCount p l)).setRoute p
        (s.routes[p].clipped (s.normalCount p l) (s.yields (s.normalCount p l)))).setOutput p (.line { l with
          placed := l.placed ++
            s.routes[p].carriagePackets s.carriage[p].phase (s.normalCount p l) (s.yields (s.normalCount p l)) }) := by
  unfold State.carriageStep State.requestRoom
  simp only [State.setOutput_carriage, State.setOutput_paths, State.setOutput_routes, normal]
  rw [if_pos carriage]
  have count : s.carriage[p].answer (some l.roomLeft) s.routes[p].armedSlots.length = s.normalCount p l := rfl
  rw [count, State.carriageRequest_setOutput]
  split
  next zero => rw [zero]
  next =>
    generalize s.carriageRequest p (s.normalCount p l) = t
    exact forList_place (s := t.setRoute p _) _ l

end

/-- Settles O28: a NORMAL line, a line under BYPASS and a quiet one, with the pops of `popFeed_lanes` and the room of
`carriagePackets_fit`. -/
theorem carriageLinePopsAndCarries : Obligations.CarriageLinePopsAndCarries := by
  unfold Obligations.CarriageLinePopsAndCarries
  intro s p l c due line next hc hdue
  subst hc
  have step : s.assembleTo p .carriage = (s.setOutput p (.line { l with made := 4 })).carriageStep p { l with made := 4 } :=
    State.assembleTo_of_next (x := .carriage) line next
  have record : ∀ k, s.carriage[p].requested k = { s.carriage[p] with
      given := s.carriage[p].given + due, owed := s.carriage[p].owed + due - k
      linePosition := s.carriage[p].linePosition + 1 } := fun k => by rw [hdue]; rfl
  refine ⟨fun room k slots normal carriage hslots hroom hk => ?normal, fun bypass carriage => ?bypass, fun quiet => ?quiet⟩
  case normal =>
    have count : k = s.normalCount p l := by rw [hk, hdue, hslots, hroom]; rfl
    have at' := step.trans (State.carriageStep_of_normal (l := { l with made := 4 }) normal carriage)
    have same : s.normalCount p { l with made := 4 } = k := count.symm
    have armed : s.routes[p].armedSlots = slots := hslots.symm
    rw [same] at at'
    have frame := s.carriageRequest_frame p k
    have lanes := s.popFeed_lanes p k
    generalize s.popFeed p k = pops at frame lanes ⊢
    by_cases zero : k = 0
    · rw [if_pos zero, ← zero, frame] at at'
      refine ⟨_, { l with made := 4 }, congrArg Host.Outcome.next at', rfl, rfl, ?_⟩
      refine ⟨congrArg (s.carriage.set p) (record _), lanes, rfl, rfl, fun _ => ⟨rfl, rfl⟩, fun h => absurd zero h,
        fun h => absurd zero h, (Vector.set_own _ _ rfl).symm, Nat.le_add_right _ _⟩
    · rw [if_neg zero, frame] at at'
      refine ⟨_, { l with made := 4, placed := l.placed ++ s.routes[p].carriagePackets s.carriage[p].phase k (s.yields k) },
        congrArg Host.Outcome.next at', rfl, rfl, congrArg (s.carriage.set p) (record _), lanes, rfl, rfl,
        fun h => absurd h zero, fun _ => ?placed, fun _ x => ?clips, ?routes, ?room⟩
      case placed => rw [Route.carriagePackets, armed]; rfl
      case clips => rw [State.setOutput_routes, State.setRoute_same]; exact Route.clipped_clips _ k _ x
      case routes => rw [State.setOutput_routes, State.setRoute_same]; rfl
      case room =>
        dsimp only
        rw [packetsSize_append, Route.carriagePackets_size, armed]
        exact Nat.add_le_add_left (carriagePackets_fit hk zero) _
  case bypass =>
    have at' := step.trans (State.carriageStep_of_bypass (l := { l with made := 4 }) bypass carriage)
    have pop : s.carriage[p].owed + s.carriage[p].due = s.carriage[p].owed + due := by rw [hdue]; rfl
    rw [pop] at at'
    have frame := s.carriageRequest_frame p (min 4 (s.carriage[p].owed + due))
    have lanes := s.popFeed_lanes p (min 4 (s.carriage[p].owed + due))
    generalize s.popFeed p (min 4 (s.carriage[p].owed + due)) = pops at frame lanes ⊢
    rw [frame] at at'
    exact ⟨_, congrArg Host.Outcome.next at', rfl, congrArg (s.carriage.set p) (record _), lanes, rfl, rfl⟩
  case quiet =>
    exact congrArg Host.Outcome.next (step.trans (State.carriageStep_of_quiet quiet))

end Sys2Proof.Machine
end

section
/-! SUPPORT. The beacon step and the replies step (R133, R134, R159): what the beacon's summary says, when replies leave the
queue, and what a command that finds room does. -/

namespace Sys2Proof.Machine

/-! ### The beacon's summary (R16) -/

/-- A sum of distinct powers of 2 has a bit for each of them. -/
theorem sum_pow_testBit (b : Nat → Bool) (n : Nat) :
    ((List.range n).map fun k => if b k then 2 ^ k else 0).sum < 2 ^ n ∧
      ∀ j, ((List.range n).map fun k => if b k then 2 ^ k else 0).sum.testBit j = (decide (j < n) && b j) := by
  induction n with
  | zero => simp
  | succ n ih =>
    obtain ⟨below, bits⟩ := ih
    rw [List.sum_range_succ]
    generalize ((List.range n).map fun k => if b k then 2 ^ k else 0).sum = sum at below bits
    cases hb : b n with
    | false =>
      refine ⟨by simpa using below.trans (Nat.pow_lt_pow_right (by decide) n.lt_succ_self), fun j => ?_⟩
      rw [if_neg (by decide), Nat.add_zero, bits]
      by_cases top : j = n
      · simp [top, hb]
      · have same : j < n + 1 ↔ j < n := by omega
        simp [same]
    | true =>
      refine ⟨by rw [if_pos rfl, Nat.pow_succ]; omega, fun j => ?_⟩
      rw [if_pos rfl, Nat.add_comm]
      rcases Nat.lt_trichotomy j n with lower | top | upper
      · rw [Nat.testBit_two_pow_add_gt lower, bits]
        simp [lower, Nat.lt_succ_of_lt lower]
      · rw [top, Nat.testBit_two_pow_add_eq, Nat.testBit_lt_two_pow below]
        simp [hb]
      · have size : 2 ^ n + sum < 2 ^ j :=
          calc 2 ^ n + sum < 2 ^ n + 2 ^ n := Nat.add_lt_add_left below _
            _ = 2 ^ (n + 1) := by rw [Nat.pow_succ]; omega
            _ ≤ 2 ^ j := Nat.pow_le_pow_right (by decide) upper
        rw [Nat.testBit_lt_two_pow size]
        simp [Nat.not_lt.mpr upper]

/-- The summary has exactly the bits of the kinds with a raised record (R16). -/
theorem State.noticeSummary_eq {s : State} {summary : Nat} (small : summary < 32768)
    (bits : ∀ k : Nat, k < 15 →
      (summary.testBit k = true ↔ ∃ n : Notice, n.kind = k + 1 ∧ (s.notice n).raised = true)) :
    s.noticeSummary = summary := by
  refine Nat.eq_of_testBit_eq fun k => ?_
  rw [State.noticeSummary, (sum_pow_testBit _ 15).2 k]
  by_cases kind : k < 15
  · rw [Bool.eq_iff_iff, bits k kind]
    simp [kind, State.raisedNotices, Notice.mem_all, and_comm]
  · rw [Nat.testBit_lt_two_pow (small.trans_le (Nat.pow_le_pow_right (n := 2) (by decide) (Nat.not_lt.mp kind)))]
    simp [kind]

/-! ### The beacon step (R133) -/

section

variable {s : State} {p : Feed} {l : Line}

theorem State.beaconStep_of_none (own : s.settings.replyFeed = p) (quiet : s.beaconPending = false) :
    (s.setOutput p (.line l)).beaconStep p l = s.setOutput p (.line { l with replies := true }) := by
  unfold State.beaconStep
  rw [if_pos (by exact own), if_neg (by rw [State.setOutput_beaconPending, quiet]; decide),
    State.updateLine_of_line _ (State.setOutput_same s p _), State.setOutput_setOutput]

theorem State.beaconStep_of_noRoom (own : s.settings.replyFeed = p) (waiting : s.beaconPending = true)
    (full : l.roomLeft < 17) : s.beaconStep p l = s := by
  unfold State.beaconStep
  rw [if_pos own, if_pos waiting, if_neg (Nat.not_le.mpr (show l.roomLeft < beaconSize from full))]

theorem State.beaconStep_of_room (own : s.settings.replyFeed = p) (waiting : s.beaconPending = true)
    (room : 17 ≤ l.roomLeft) : (s.setOutput p (.line l)).beaconStep p l =
      ({ s with beaconPending := false }).setOutput p
        (.line { l with placed := l.placed ++ [s.beaconPacket], replies := true }) := by
  unfold State.beaconStep
  rw [if_pos (by exact own), if_pos (by exact waiting), if_pos (show beaconSize ≤ l.roomLeft from room)]
  have line : ({ s.setOutput p (.line l) with beaconPending := false } : State) =
      ({ s with beaconPending := false } : State).setOutput p (.line l) := rfl
  rw [line, State.place_setOutput, State.updateLine_of_line _ (State.setOutput_same _ p _), State.setOutput_setOutput]
  rfl

end

theorem State.beaconPacket_size (s : State) : s.beaconPacket.size = 17 := by
  have words := writeFields_length [s.deviceAddress.val, s.tick.count, s.noticeSummary, s.raisedNotices.length]
  exact congrArg (· + 5) words

/-! ### The replies step (R134) -/

theorem Reply.packet_size (r : Reply) : r.packet.size = r.size := by
  have words : (writeFields r.fields).length = 3 * r.fields.length := writeFields_length r.fields
  rw [Packet.size, Packet.span, Reply.size]
  exact congrArg (· + 5) words

theorem packetsSize_placeReply (ks : List Packet) (r : Reply) : packetsSize (ks ++ [r.packet]) = packetsSize ks + r.size := by
  rw [packetsSize_append]
  simp [packetsSize, Reply.packet_size]

theorem Reply.size_pos (r : Reply) : 0 < r.size := Nat.succ_pos _

section

variable {s : State} {p : Feed} {l : Line} {fresh : Bool}

theorem State.repliesLoop_of_noLine (n : Nat) (h : ∀ l, s.outputs[p] ≠ .line l) : s.repliesLoop p fresh n = s := by
  cases n with
  | zero => rfl
  | succ n =>
    unfold State.repliesLoop
    split
    next l line => exact absurd line (h l)
    next => rfl

/-- Replies stop at one that neither fits nor goes alone on a fresh line (R134). -/
theorem State.repliesLoop_of_stop (n : Nat) (line : s.outputs[p] = .line l)
    (stop : ∀ r, s.replyQueue.head? = some r → l.roomLeft < r.size ∧ (fresh = false ∨ r.size ≤ l.room)) :
    s.repliesLoop p fresh n = s := by
  cases n with
  | zero => rfl
  | succ n =>
    rw [State.repliesLoop, line]
    dsimp only
    split
    · split
      · rfl
      next r rest queue =>
        obtain ⟨full, alone⟩ := stop r (by rw [queue]; rfl)
        rw [if_neg (Nat.not_le.mpr full), if_neg]
        rintro ⟨overlong, isFresh⟩
        rcases alone with notFresh | short
        · rw [notFresh] at isFresh
          exact absurd isFresh (by decide)
        · exact absurd short (Nat.not_le.mpr overlong)
    · rfl

/-- A reply that fits leaves the queue (R134). -/
theorem State.repliesLoop_of_fit (n : Nat) {r : Reply} {rest : List Reply} (line : s.outputs[p] = .line l)
    (own : s.settings.replyFeed = p) (queue : s.replyQueue = r :: rest) (fit : r.size ≤ l.roomLeft) :
    s.repliesLoop p fresh (n + 1) = (s.placeReply p r rest).repliesLoop p fresh n := by
  rw [State.repliesLoop, line]
  dsimp only
  rw [if_pos own, queue]
  exact if_pos fit

/-- An overlong reply goes alone on a fresh line (R134; log 14). -/
theorem State.repliesLoop_of_overlong (n : Nat) {r : Reply} {rest : List Reply} (line : s.outputs[p] = .line l)
    (own : s.settings.replyFeed = p) (queue : s.replyQueue = r :: rest) (overlong : l.room < r.size) :
    s.repliesLoop p true (n + 1) = s.placeReply p r rest := by
  have full : l.roomLeft < r.size := (Nat.sub_le _ _).trans_lt overlong
  rw [State.repliesLoop, line]
  dsimp only
  rw [if_pos own, queue]
  exact (if_neg (Nat.not_le.mpr full)).trans (if_pos ⟨overlong, rfl⟩)

/-- With no command waiting, a reply placed is only that. -/
theorem State.placeReply_of_noCommand (r : Reply) (rest : List Reply) (idle : s.commandQueue = []) :
    (s.setOutput p (.line l)).placeReply p r rest =
      ({ s with replyQueue := rest }).setOutput p (.line { l with placed := l.placed ++ [r.packet] }) := by
  unfold State.placeReply
  rw [State.place_setOutput]
  exact State.runQueue_empty idle

/-- The room that is left bounds what fits. -/
theorem Line.roomLeft_lt_iff {n : Nat} (hn : 0 < n) : l.roomLeft < n ↔ l.room < packetsSize l.placed + n := by
  unfold Line.roomLeft Line.used
  omega

theorem Line.le_roomLeft_of_fit {n : Nat} (h : packetsSize l.placed + n ≤ l.room) : n ≤ l.roomLeft := by
  unfold Line.roomLeft Line.used
  omega

end

/-- With no command waiting, the replies that fit leave one behind another, up to one that stays (R134). -/
theorem repliesLoop_gone {p : Feed} {fresh : Bool} (m : Nat) (gone stay : List Reply) (s : State) (l : Line)
    (own : s.settings.replyFeed = p) (idle : s.commandQueue = []) (queue : s.replyQueue = gone ++ stay)
    (fit : packetsSize l.placed + (gone.map Reply.size).sum ≤ l.room ∨ gone = [])
    (stop : ∀ r : Reply, stay.head? = some r →
      l.room < packetsSize l.placed + (gone.map Reply.size).sum + r.size ∧ (fresh = false ∨ r.size ≤ l.room)) :
    (s.setOutput p (.line l)).repliesLoop p fresh (gone.length + m) =
      ({ s with replyQueue := stay }).setOutput p (.line { l with placed := l.placed ++ gone.map Reply.packet }) := by
  induction gone generalizing s l with
  | nil =>
    have same : ({ s with replyQueue := stay } : State) = s := by rw [← List.nil_append stay, ← queue]
    rw [State.repliesLoop_of_stop (l := l) _ (State.setOutput_same s p _), same]
    · simp
    · intro r head
      rw [State.setOutput_replyQueue, queue] at head
      obtain ⟨full, alone⟩ := stop r head
      exact ⟨(Line.roomLeft_lt_iff r.size_pos).mpr (by simpa using full), alone⟩
  | cons r gone ih =>
    have fits := fit.resolve_right (List.cons_ne_nil r gone)
    rw [List.map_cons, List.sum_cons] at fits
    have used : packetsSize (l.placed ++ [r.packet]) + (gone.map Reply.size).sum =
        packetsSize l.placed + ((r :: gone).map Reply.size).sum := by
      rw [packetsSize_placeReply, List.map_cons, List.sum_cons, Nat.add_assoc]
    rw [List.length_cons, Nat.succ_add, State.repliesLoop_of_fit (l := l) _ (State.setOutput_same s p _) own queue
      (Line.le_roomLeft_of_fit (by omega)), State.placeReply_of_noCommand r _ idle]
    refine (ih { s with replyQueue := gone ++ stay } { l with placed := l.placed ++ [r.packet] } own idle rfl
      (.inl (by rw [used]; exact fits)) (fun w head => by rw [used]; exact stop w head)).trans ?_
    simp

/-! ### A command that finds room (R151) -/

/-- An executed command is a RESTART, which cuts every line and drops the commands that waited (R161), or leaves the outputs
and the other commands and has its reply appended. -/
theorem State.executeCommand_cases (s : State) (c : Command) :
    ((∀ q : Feed, (s.executeCommand c).outputs[q] = .dark) ∧ (s.executeCommand c).commandQueue = []) ∨
      ((s.executeCommand c).outputs = s.outputs ∧ (s.executeCommand c).commandQueue = s.commandQueue ∧
        (s.executeCommand c).replyQueue = s.replyQueue ++ [replyTo s.deviceAddress c (s.judge c)]) :=
  (s.judge_cases c).imp id fun ⟨outputs, commands, replies⟩ =>
    ⟨outputs, commands, congrArg (· ++ [replyTo s.deviceAddress c (s.judge c)]) replies⟩

theorem State.executeHeads_empty {s : State} (h : s.commandQueue = []) (n : Nat) : s.executeHeads n = s := by
  induction n with
  | zero => rfl
  | succ n ih =>
    have idle : s.executeHead = s := by rw [State.executeHead, h]
    rw [State.executeHeads, idle, ih]

/-- A queue whose head may execute and whose next command must wait executes its head alone (R151). -/
theorem State.runQueue_of_one {s : State} {c : Command} {behind : List Command} (queue : s.commandQueue = c :: behind)
    (addressed : c.broadcast = false) (next : ∀ d : Command, behind.head? = some d → d.broadcast = false)
    (room : s.replyQueue.length = 7) :
    s.runQueue = ({ s with commandQueue := behind } : State).executeCommand c := by
  have head : s.executeHead = ({ s with commandQueue := behind } : State).executeCommand c := by
    rw [State.executeHead, queue]
    dsimp only
    rw [addressed, if_neg (by decide), if_pos (by omega)]
  rw [State.runQueue, queue, List.length_cons, State.executeHeads, head]
  rcases State.executeCommand_cases { s with commandQueue := behind } c with ⟨-, dropped⟩ | ⟨-, commands, replies⟩
  · exact State.executeHeads_empty dropped _
  · cases behind with
    | nil => exact State.executeHeads_empty commands _
    | cons d rest =>
      refine State.executeHeads_stalled commands (next d rfl) ?_ _
      rw [replies, List.length_append]
      exact (Nat.succ_le_succ room.ge)

/-- Settles O29: each step by its case; the replies by `repliesLoop_gone`, and a command let in by `runQueue_of_one`, after
which the line is cut or the next reply does not fit. -/
theorem replyFeedLineCarriesBeaconAndReply : Obligations.ReplyFeedLineCarriesBeaconAndReply := by
  unfold Obligations.ReplyFeedLineCarriesBeaconAndReply
  intro s p l used holding line hused hholding
  subst hused hholding
  refine ⟨fun next => ?beacon, fun next => ?replies⟩
  case beacon =>
    have step : s.assembleTo p .beacon = (s.setOutput p (.line { l with made := 2 })).beaconStep p { l with made := 2 } :=
      State.assembleTo_of_next (x := .beacon) line next
    refine ⟨fun other => ?other, fun own quiet => ?quiet, fun own waiting full => ?full,
      fun summary own waiting room small bits => ?placed⟩
    case other => exact congrArg Host.Outcome.next (step.trans (State.beaconStep_of_otherFeed _ other))
    case quiet => exact congrArg Host.Outcome.next (step.trans (State.beaconStep_of_none own quiet))
    case full =>
      exact congrArg Host.Outcome.next (step.trans (State.beaconStep_of_noRoom own waiting
        ((Line.roomLeft_lt_iff (by decide)).mpr full)))
    case placed =>
      have summed := State.noticeSummary_eq small bits
      refine congrArg Host.Outcome.next (step.trans ?_)
      rw [State.beaconStep_of_room (l := { l with made := 2 }) own waiting (Line.le_roomLeft_of_fit room), State.beaconPacket, summed]
      rfl
  case replies =>
    have step : s.assembleTo p .replies = (s.setOutput p (.line { l with made := 3 })).repliesStep p { l with made := 3 } :=
      State.assembleTo_of_next (x := .replies) line next
    have loop : l.replies = true → s.assembleTo p .replies =
        (s.setOutput p (.line { l with made := 3 })).repliesLoop p l.placed.isEmpty s.replyQueue.length := fun on =>
      step.trans (if_pos on)
    have notFresh : l.placed ≠ [] → l.placed.isEmpty = false := fun h => List.isEmpty_eq_false_iff.mpr h
    refine ⟨fun held => ?held, fun gone stay own on idle queue fit stop => ?gone,
      fun r stay own on idle queue empty overlong => ?overlong, ?command⟩
    case held =>
      refine congrArg Host.Outcome.next (step.trans ?_)
      rcases held with other | off
      · exact State.repliesStep_of_otherFeed _ other
      · exact if_neg (by rw [off]; decide)
    case gone =>
      refine congrArg Host.Outcome.next ((loop on).trans ?_)
      rw [queue, List.length_append]
      exact repliesLoop_gone stay.length gone stay s { l with made := 3 } own idle queue fit fun r head =>
        (stop r head).imp_right fun alone => alone.imp_left notFresh
    case overlong =>
      refine congrArg Host.Outcome.next ((loop on).trans ?_)
      rw [queue, List.length_cons, empty]
      refine (State.repliesLoop_of_overlong (l := { l with made := 3, placed := [] }) _ (State.setOutput_same s p _) own queue overlong).trans ?_
      refine (State.placeReply_of_noCommand (l := { l with made := 3, placed := [] }) r stay idle).trans ?_
      rfl
    case command =>
      intro r second stay c behind u a own on queue eight fits short alone commands addressed next hu ha
      have length : stay.length = 6 := by rw [queue] at eight; simpa using eight
      have ran : (s.setOutput p (.line { l with made := 3 })).placeReply p r (second :: stay) = u.executeCommand c := by
        unfold State.placeReply
        rw [State.place_setOutput, hu]
        exact State.runQueue_of_one commands addressed next (by simp [length])
      have result : u.executeCommand c = { a.state with
          replyQueue := a.state.replyQueue ++ [{ fields := [s.deviceAddress.val, c.tag, a.code.code] ++ a.results }] } := by
        rw [State.executeCommand, ← ha, hu]
        rfl
      refine congrArg Host.Outcome.next ((loop on).trans ?_)
      rw [queue, List.length_cons]
      refine (State.repliesLoop_of_fit (l := { l with made := 3 }) _ (State.setOutput_same s p _) own queue (Line.le_roomLeft_of_fit fits)).trans ?_
      rw [ran, ← result]
      rcases u.executeCommand_cases c with ⟨dark, -⟩ | ⟨outputs, -, replies⟩
      · exact State.repliesLoop_of_noLine _ fun w onto => absurd ((dark p).symm.trans onto) nofun
      · have onto : (u.executeCommand c).outputs[p] =
            .line { l with made := 3, placed := l.placed ++ [r.packet] } := by
          rw [outputs, hu]
          exact vector_set_same _ _ _
        refine State.repliesLoop_of_stop _ onto fun w head => ?_
        have isSecond : w = second := by
          rw [replies, hu] at head
          exact (Option.some.inj head).symm
        subst isSecond
        refine ⟨(Line.roomLeft_lt_iff w.size_pos).mpr ?_, alone.imp_left notFresh⟩
        rw [packetsSize_placeReply]
        exact short

end Sys2Proof.Machine
end

section
/-! SUPPORT. What the part adds to a line fits the line's room (R107, R131, R133 to R135). -/

namespace Sys2Proof.Machine

/-! ### The passed-packets step -/

theorem packetsSize_filterMap_le (f : LinePacket → Option Packet) (hf : ∀ y k, f y = some k → k.size = y.packet.size)
    (ks : List LinePacket) : packetsSize (ks.filterMap f) ≤ packetsSize (ks.map LinePacket.packet) := by
  induction ks with
  | nil => exact le_rfl
  | cons y ks ih =>
    have whole : packetsSize ((y :: ks).map LinePacket.packet) =
        y.packet.size + packetsSize (ks.map LinePacket.packet) := rfl
    cases hy : f y with
    | none =>
      rw [List.filterMap_cons_none hy, whole]
      omega
    | some k =>
      have first : packetsSize (k :: ks.filterMap f) = k.size + packetsSize (ks.filterMap f) := rfl
      rw [List.filterMap_cons_some hy, whole, first, hf y k hy]
      omega

theorem Packet.spoilt_size (k : Packet) : k.spoilt.size = k.size := rfl

/-- A packet that is placed takes the words it came with (R9). -/
theorem LinePacket.placedUnder_size {r : Route} {y : LinePacket} {k : Packet} (h : y.placedUnder r = some k) :
    k.size = y.packet.size := by
  unfold LinePacket.placedUnder at h
  split at h
  · exact absurd h nofun
  · unfold LinePacket.passed? at h
    cases origin : y.origin with
    | leftCommand =>
      rw [origin] at h
      rw [← Option.some.inj h]
    | decided strip good =>
      rw [origin] at h
      cases strip with
      | true => exact absurd h nofun
      | false =>
        cases good with
        | true => rw [← (show y.packet = k from Option.some.inj h)]
        | false => rw [← (show y.packet.spoilt = k from Option.some.inj h), Packet.spoilt_size]

/-- The passed-packets step places no more words than the packets of the input line take, and leaves the replies. -/
theorem State.passedStep_adds (s : State) (p : Feed) (l : Line) : ∃ (t : State) (ks : List Packet),
    (s.setOutput p (.line l)).passedStep p l = t.setOutput p (.line { l with placed := l.placed ++ ks }) ∧
      t.replyQueue = s.replyQueue ∧ packetsSize ks ≤ packetsSize (l.packets.map LinePacket.packet) := by
  cases mode : s.paths[p].inForce with
  | bypass =>
    refine ⟨s, l.packets.map LinePacket.packet, ?_, rfl, le_rfl⟩
    have carries := State.passedStep_of_quiet (s := s) (p := p) (l := l) l (.inl mode) rfl
    rw [mode] at carries
    exact carries
  | normal =>
    refine ⟨forList (State.met p) l.packets s, l.packets.filterMap (LinePacket.placedUnder s.routes[p]), ?_, ?_,
      packetsSize_filterMap_le _ (fun _ _ => LinePacket.placedUnder_size) _⟩
    · unfold State.passedStep
      rw [State.setOutput_paths, mode]
      exact forList_placePassed l.packets l
    · rw [forList_met_frame]

/-! ### The other steps -/

/-- A line in progress on output `p` has `room` words of blanking space, and its packets fit it or are within `bound`. -/
def State.Fits (p : Feed) (room bound : Nat) (s : State) : Prop :=
  ∀ w, s.outputs[p] = .line w → w.room = room ∧ packetsSize w.placed ≤ max room bound

section

variable {p : Feed} {room bound : Nat} {s t : State} {l : Line}

theorem State.Fits.congr (h : s.Fits p room bound) (same : t.outputs = s.outputs) : t.Fits p room bound :=
  fun w onto => h w (by rw [← same]; exact onto)

theorem State.Fits.of_noLine (h : ∀ w, s.outputs[p] ≠ .line w) : s.Fits p room bound := fun w onto => absurd onto (h w)

theorem State.Fits.of_line (line : s.outputs[p] = .line l) (hroom : l.room = room)
    (hsize : packetsSize l.placed ≤ max room bound) : s.Fits p room bound := fun w onto => by
  rw [← Output.line.inj (line.symm.trans onto)]
  exact ⟨hroom, hsize⟩

theorem State.Fits.executed (h : s.Fits p room bound) (executed : State.Executed s t) : t.Fits p room bound :=
  executed.elim (fun kept => h.congr kept.1) fun dark => .of_noLine fun _ onto => absurd ((dark p).symm.trans onto) nofun

/-- What fits the room that is left fits the room. -/
theorem Line.fits_of_le_roomLeft {n : Nat} (h : n ≤ l.roomLeft) (hsize : packetsSize l.placed ≤ max l.room bound) :
    packetsSize l.placed + n ≤ max l.room bound := by
  unfold Line.roomLeft Line.used at h
  omega

theorem State.beaconStep_fits (hroom : l.room = room) (hsize : packetsSize l.placed ≤ max room bound) :
    ((s.setOutput p (.line l)).beaconStep p l).Fits p room bound := by
  have stands : (s.setOutput p (.line l)).Fits p room bound := .of_line (State.setOutput_same s p _) hroom hsize
  by_cases own : s.settings.replyFeed = p
  · by_cases waiting : s.beaconPending = true
    · by_cases fit : 17 ≤ l.roomLeft
      · rw [State.beaconStep_of_room own waiting fit]
        refine .of_line (State.setOutput_same _ p _) hroom ?_
        subst hroom
        have words : packetsSize (l.placed ++ [s.beaconPacket]) = packetsSize l.placed + 17 := by
          rw [packetsSize_append, packetsSize, packetsSize, List.map_singleton, List.sum_singleton, s.beaconPacket_size]
        rw [words]
        exact Line.fits_of_le_roomLeft fit hsize
      · rw [State.beaconStep_of_noRoom (s := s.setOutput p (.line l)) own waiting (Nat.lt_of_not_le fit)]
        exact stands
    · rw [State.beaconStep_of_none own (Bool.eq_false_iff.mpr waiting)]
      exact .of_line (State.setOutput_same _ p _) hroom hsize
  · rw [State.beaconStep_of_otherFeed (s := s.setOutput p (.line l)) l own]
    exact stands

theorem State.placeReply_fits {r : Reply} (rest : List Reply) (line : s.outputs[p] = .line l) (fit : r.size ≤ l.roomLeft)
    (hroom : l.room = room) (hsize : packetsSize l.placed ≤ max room bound) :
    (s.placeReply p r rest).Fits p room bound := by
  refine State.Fits.executed (.of_line (l := { l with placed := l.placed ++ [r.packet] }) ?_ hroom ?_)
    (State.runQueue_executed _)
  · rw [State.place_of_line r.packet line]
    exact State.setOutput_same s p _
  · subst hroom
    rw [packetsSize_placeReply]
    exact Line.fits_of_le_roomLeft fit hsize

/-- Placing a reply leaves the replies behind it first in the queue, unless a RESTART cuts the line. -/
theorem State.placeReply_queue (r : Reply) (rest : List Reply) (s : State) :
    rest <+: (s.placeReply p r rest).replyQueue ∨ ∀ q : Feed, (s.placeReply p r rest).outputs[q] = .dark :=
  (State.runQueue_executed { s.place p r.packet with replyQueue := rest }).imp_left And.right

/-- The replies that waited when the step began, none of them overlong, keep to the room. -/
theorem State.repliesLoop_fits (fresh : Bool) (waiting : List Reply) (h : s.Fits p room bound)
    (queue : waiting <+: s.replyQueue) (short : ∀ r ∈ waiting, r.size ≤ room) :
    (s.repliesLoop p fresh waiting.length).Fits p room bound := by
  induction waiting generalizing s with
  | nil => exact h
  | cons r waiting ih =>
    obtain ⟨later, queue⟩ := queue
    by_cases hl : ∃ l, s.outputs[p] = .line l
    · obtain ⟨l, line⟩ := hl
      obtain ⟨hroom, hsize⟩ := h l line
      by_cases own : s.settings.replyFeed = p
      · by_cases fit : r.size ≤ l.roomLeft
        · rw [List.length_cons, State.repliesLoop_of_fit _ line own queue.symm fit]
          rcases State.placeReply_queue (p := p) r (waiting ++ later) s with kept | dark
          · exact ih (State.placeReply_fits _ line fit hroom hsize) (List.IsPrefix.trans ⟨later, rfl⟩ kept)
              fun w hw => short w (List.mem_cons_of_mem r hw)
          · have noLine : ∀ w, (s.placeReply p r (waiting ++ later)).outputs[p] ≠ .line w := fun w onto =>
              absurd ((dark p).symm.trans onto) nofun
            exact (State.repliesLoop_of_noLine (fresh := fresh) waiting.length noLine).symm ▸ .of_noLine noLine
        · rw [State.repliesLoop_of_stop _ line]
          · exact h
          · intro w head
            rw [← queue] at head
            obtain rfl : r = w := Option.some.inj head
            exact ⟨Nat.lt_of_not_le fit, .inr (hroom ▸ short r List.mem_cons_self)⟩
      · rw [State.repliesLoop_of_otherFeed _ _ own]
        exact h
    · rw [State.repliesLoop_of_noLine _ fun l line => hl ⟨l, line⟩]
      exact h

theorem State.carriageStep_fits (hroom : l.room = room) (hsize : packetsSize l.placed ≤ max room bound) :
    ((s.setOutput p (.line l)).carriageStep p l).Fits p room bound := by
  by_cases carriage : s.carriage[p].frameQuiet ≤ l.index
  · cases mode : s.paths[p].inForce with
    | bypass =>
      rw [State.carriageStep_of_bypass mode carriage]
      exact .of_line (State.setOutput_same _ p _) hroom hsize
    | normal =>
      rw [State.carriageStep_of_normal mode carriage]
      split
      · exact .of_line (State.setOutput_same _ p _) hroom hsize
      next some =>
        refine .of_line (State.setOutput_same _ p _) hroom ?_
        subst hroom
        dsimp only
        rw [packetsSize_append, Route.carriagePackets_size]
        exact Line.fits_of_le_roomLeft (carriagePackets_fit rfl some) hsize
  · rw [State.carriageStep_of_quiet (s := s.setOutput p (.line l)) (Nat.lt_of_not_le carriage)]
    exact .of_line (State.setOutput_same s p _) hroom hsize

/-- Every step behind the passed-packets step keeps to the room. -/
theorem State.makeStep_fits {x : LineStep} (later : x ≠ .passed) (h : s.Fits p room bound)
    (short : x = .replies → ∀ r ∈ s.replyQueue, r.size ≤ room) : (s.makeStep p x).Fits p room bound := by
  by_cases hl : ∃ l, s.outputs[p] = .line l ∧ l.made = lineStepPlace x
  · obtain ⟨l, line, next⟩ := hl
    obtain ⟨hroom, hsize⟩ := h l line
    rw [State.makeStep_of_next line next]
    cases x with
    | passed => exact absurd rfl later
    | beacon => exact State.beaconStep_fits (l := { l with made := 2 }) hroom hsize
    | replies =>
      have stands : (s.setOutput p (.line { l with made := 3 })).Fits p room bound :=
        .of_line (State.setOutput_same s p _) hroom hsize
      show (State.repliesStep p { l with made := 3 } (s.setOutput p (.line { l with made := 3 }))).Fits p room bound
      unfold State.repliesStep
      split
      · exact State.repliesLoop_fits _ _ stands (⟨[], List.append_nil _⟩) (short rfl)
      · exact stands
    | carriage => exact State.carriageStep_fits (l := { l with made := 4 }) hroom hsize
  · have same : s.makeStep p x = s := by
      by_cases noLine : ∃ l, s.outputs[p] = .line l
      · obtain ⟨l, line⟩ := noLine
        exact State.makeStep_of_other line fun next => hl ⟨l, line, next⟩
      · exact State.makeStep_of_noLine fun l line => noLine ⟨l, line⟩
    rw [same]
    exact h

theorem State.beaconStep_replyQueue : (s.beaconStep p l).replyQueue = s.replyQueue := by
  have update : ∀ (f : Line → Line) (t : State), (t.updateLine p f).replyQueue = t.replyQueue := fun f t => by
    unfold State.updateLine
    split <;> rfl
  unfold State.beaconStep
  split
  · split
    · split
      · exact (update _ _).trans (update _ _)
      · rfl
    · exact update _ s
  · rfl

theorem State.makeStep_beacon_replyQueue (s : State) : (s.makeStep p .beacon).replyQueue = s.replyQueue := by
  unfold State.makeStep
  split
  · split
    · exact State.beaconStep_replyQueue
    · rfl
  · rfl

/-- Assembly behind the passed-packets step keeps to the room, while no overlong reply waits. -/
theorem State.assembleTo_fits (x : LineStep) (h : (s.assembleTo p .passed).Fits p room bound)
    (short : ∀ r ∈ (s.assembleTo p .passed).replyQueue, r.size ≤ room) : (s.assembleTo p x).Fits p room bound := by
  have beacon : (s.assembleTo p .beacon).Fits p room bound := State.makeStep_fits (x := .beacon) (by decide) h nofun
  have queue : (s.assembleTo p .passed).replyQueue = (s.assembleTo p .beacon).replyQueue :=
    (State.makeStep_beacon_replyQueue _).symm
  have replies : (s.assembleTo p .replies).Fits p room bound :=
    State.makeStep_fits (x := .replies) (by decide) beacon fun _ => queue ▸ short
  cases x with
  | passed => exact h
  | beacon => exact beacon
  | replies => exact replies
  | carriage => exact State.makeStep_fits (x := .carriage) (by decide) replies nofun

/-- The passed-packets step adds at most the words of the input line's packets, and leaves the room and the replies. -/
theorem State.assembleTo_passed_adds (line : s.outputs[p] = .line l) :
    ∃ v, (s.assembleTo p .passed).outputs[p] = .line v ∧ v.room = l.room ∧
      packetsSize v.placed ≤ packetsSize l.placed + packetsSize (l.packets.map LinePacket.packet) ∧
      (s.assembleTo p .passed).replyQueue = s.replyQueue := by
  by_cases start : l.made = 0
  · obtain ⟨t, ks, passed, queue, words⟩ := s.passedStep_adds p { l with made := 1 }
    have at' : s.assembleTo p .passed = _ := (State.assembleTo_of_next (x := .passed) line start).trans passed
    rw [at']
    refine ⟨_, State.setOutput_same t p _, rfl, ?_, queue⟩
    rw [packetsSize_append]
    exact Nat.add_le_add_left words _
  · have same : s.assembleTo p .passed = s := State.makeStep_of_other (x := .passed) line start
    rw [same]
    exact ⟨l, line, rfl, Nat.le_add_right _ _, rfl⟩

end

/-- Settles O30: the passed-packets step adds what the input line brought (`assembleTo_passed_adds`), and each later step
consults the room (`makeStep_fits`). -/
theorem addedPacketsFitTheRoom : Obligations.AddedPacketsFitTheRoom := by
  unfold Obligations.AddedPacketsFitTheRoom
  intro s t u p upTo l v w line short through onto through' onto'
  obtain rfl : s.assembleTo p .passed = t := Host.Outcome.next.inj through
  obtain rfl : s.assembleTo p upTo = u := Host.Outcome.next.inj through'
  obtain ⟨v', onto'', room, words, queue⟩ := State.assembleTo_passed_adds line
  obtain rfl : v' = v := Output.line.inj (onto''.symm.trans onto)
  have fits := State.assembleTo_fits (room := l.room) (bound := packetsSize v'.placed) upTo
    (.of_line onto room (Nat.le_max_right _ _)) (by rw [queue]; exact short)
  exact ⟨(fits w onto').2, words⟩

end Sys2Proof.Machine
end
